-- ==== Sys2Proof/Word.lean ====
section
/-! DEFINITION. The words of the LK-208: bytes of the link, 16-bit numbers, tick counts, and the small
numbers (gate, Run Table slot) by which records and requests name things. -/

namespace Sys2Proof

/-- One character of the link (R123), and every one-byte field (R163). -/
abbrev Byte := BitVec 8

/-- A two-byte field (R163): run numbers, sequences, acks, intervals, 16-bit counters. -/
abbrev Word := BitVec 16

/-- A four-byte field (R163): every tick count and every crossing id, 0 to 4,294,967,295. -/
abbrev Tick := BitVec 32

/-- A gate number, 0 to 7 (R17). -/
abbrev Gate := Fin 8

/-- A Run Table slot, 0 to 23 (R59). -/
abbrev Slot := Fin 24

/-- A tick instant of the free-running divider (R1), numbered from the release of RSTn. These measure
real time; they are not readings of the race clock (R21). -/
abbrev Instant := Nat

/-- A 16-bit counter that stops at 65,535 (a "saturating" counter of the Conventions). -/
def Word.saturatingSucc (w : Word) : Word := if w = 0xFFFF then w else w + 1

end Sys2Proof
end

