-- ==== Sys2Proof/Syntax.lean ====
section
/-! DEFINITION. The commands of the LK-208: one constructor per row of spec/opcode_table.json, in the table's
order. A command is one of the part's steps, whole and indivisible. A step that an input brings about carries
what the input brings (the levels of the gate pins, a received character, the baud straps); a step of one gate
names its gate. A request step takes its arguments from the request that waits in the request buffer (R136), so
it carries none. -/

namespace Sys2Proof

inductive Instr where
  /-- RSTN_LOW: RSTn goes low (R170). -/
  | rstnLow
  /-- EXTERNAL_RESET: RSTn is released; `true` is a high strap level (R169, R123). -/
  | externalReset (baud1 baud0 : Bool)
  /-- LEADING_EDGE at a gate in IDLE (R23). -/
  | leadingEdge (g : Gate)
  /-- SHORT_PULSE at a gate in QUALIFYING (R25). -/
  | shortPulse (g : Gate)
  /-- ACCEPTANCE of a pulse at a gate (R26). -/
  | acceptance (g : Gate)
  /-- EDGE_IN_HOLDOFF (R28). -/
  | edgeInHoldoff (g : Gate)
  /-- HOLDOFF_END (R28). -/
  | holdoffEnd (g : Gate)
  /-- BLOCKED_INPUT_INACTIVE (R29). -/
  | blockedInputInactive (g : Gate)
  /-- GATE_ALARM_BLOCKED (R31). -/
  | gateAlarmBlocked (g : Gate)
  /-- GATE_ENABLE_SAMPLE (R19). -/
  | gateEnableSample (g : Gate)
  /-- HALT_END (R11). -/
  | haltEnd
  /-- CLOCK_LIMIT (R13). -/
  | clockLimit
  /-- TAKE of the head crossing (R91). -/
  | take
  /-- DEADLINE_EXPIRY: the Course Tracker examines the deadlines (R100). -/
  | deadlineExpiry
  /-- LENGTH_OUT_OF_RANGE: this length byte is received in LENGTH (R124). -/
  | lengthOutOfRange (len : Byte)
  /-- FRAME_COMPLETE: this last character of a frame is received (R125). -/
  | frameComplete (c : Byte)
  /-- INTER_CHARACTER_GAP (R126). -/
  | interCharacterGap
  /-- FRAMING_ERROR (R126). -/
  | framingError
  /-- BREAK: RXD has been low for 2 ms (R128). -/
  | lineBreak
  /-- BREAK_END: RXD returns high after a break (R128). -/
  | breakEnd
  /-- FRAME_START: the free transmitter begins the next frame (R138). -/
  | frameStart
  /-- SHORT_REPLY_SENT (R138). -/
  | shortReplySent
  /-- BUFFER_REPLY_SENT (R138). -/
  | bufferReplySent
  /-- REPORT_SENT (R149). -/
  | reportSent
  /-- RETRY_TIMER_EXPIRY (R153). -/
  | retryTimerExpiry
  /-- KEEPALIVE_EXPIRY (R154). -/
  | keepaliveExpiry
  /-- UNKNOWN_REQUEST: the Request Handler takes a request whose code names none (R136). -/
  | unknownRequest
  /-- OPEN_SESSION taken (R142). -/
  | openSession
  /-- CLOSE_SESSION taken (R143). -/
  | closeSession
  /-- PING taken (R144). -/
  | ping
  /-- STATUS taken (R145). -/
  | status
  /-- RESET_PART taken (R140). -/
  | resetPart
  /-- SET_GATE_DISABLE: SET GATE with enabled no taken (R18). -/
  | setGateDisable
  /-- SET_GATE_ENABLE: SET GATE with enabled yes taken (R19). -/
  | setGateEnable
  /-- GET_GATE taken (R20). -/
  | getGate
  /-- ARM_CLOCK taken (R4). -/
  | armClock
  /-- DISARM_CLOCK taken (R5). -/
  | disarmClock
  /-- START_CLOCK taken (R8). -/
  | startClock
  /-- HALT_CLOCK taken (R10). -/
  | haltClock
  /-- RESUME_CLOCK taken (R12). -/
  | resumeClock
  /-- CLEAR_CLOCK taken (R14). -/
  | clearClock
  /-- READ_CLOCK taken (R15). -/
  | readClock
  /-- SET_COURSE taken (R54). -/
  | setCourse
  /-- GET_COURSE taken (R56). -/
  | getCourse
  /-- STAGE_RUN taken (R67). -/
  | stageRun
  /-- WITHDRAW_RUN taken (R76). -/
  | withdrawRun
  /-- START_GROUP taken (R98). -/
  | startGroup
  /-- READ_RUN taken (R79). -/
  | readRun
  /-- RELEASE_RUN taken (R78). -/
  | releaseRun
  /-- LIST_RUNS taken (R81). -/
  | listRuns
  /-- HOLD_ASSIGNMENT taken (R87). -/
  | holdAssignment
  /-- RELEASE_ASSIGNMENT taken (R88). -/
  | releaseAssignment
  /-- SWAP_RUNS taken (R110). -/
  | swapRuns
  /-- ASSIGN_CROSSING taken (R113). -/
  | assignCrossing
  /-- VOID_SPLIT taken (R117). -/
  | voidSplit
  /-- DISCARD_CROSSING taken (R121). -/
  | discardCrossing
  /-- READ_QUEUE taken (R105). -/
  | readQueue
  /-- READ_UNASSIGNED taken (R106). -/
  | readUnassigned
  /-- MANUAL_CROSSING taken (R40). -/
  | manualCrossing
  /-- TICK_INSTANT: a tick instant of the divider, with the levels of G7 to G0 (bit g is gate g, 1 is high)
  that the Gate Units sample at it (R1, R22). -/
  | tickInstant (levels : Byte)
  /-- SYNC_BYTE_FOUND: 0xD3 is received in HUNTING (R124). -/
  | syncByteFound
  /-- LENGTH_ACCEPTED: this length byte is received in LENGTH (R124). -/
  | lengthAccepted (len : Byte)
  /-- BODY_CHARACTER: this character, not the last of the frame, is received in BODY (R124). -/
  | bodyCharacter (c : Byte)
  deriving DecidableEq, Repr

end Sys2Proof
end

