-- ==== Sys2Proof/Decode.lean ====
section
/-! DEFINITION. spec/opcode_table.json gives none of its 63 rows any bits: the part's steps are not words, and a
request's code and payload are decoded where the Request Handler takes it (Machine/Operands.lean, from R165). So no
word spells a command. -/

namespace Sys2Proof

/-- The command a word of the table spells: none, since no row of the table has bits. -/
def decodeTableWord (_nbits _w : Nat) : Option Instr := none

end Sys2Proof
end

