-- ==== Sys2Proof/Config.lean ====
section
/-! DEFINITION. The numbers the manual fixes for the part: capacities, periods, codes; and the one free value, the
order of two events that meet where the manual allows both. It leaves no other value open that a step computes. -/

namespace Sys2Proof.Config

/-- The largest count (R1); the clock halts on it (R13). -/
abbrev countLimit : Tick := 0xFFFFFFFF

/-- The Crossing Queue's capacity (R37). -/
abbrev crossingCapacity : Nat := 32

/-- The Unassigned List's capacity (R37). -/
abbrev unassignedCapacity : Nat := 16

/-- The Report Queue's capacity (R148). -/
abbrev reportCapacity : Nat := 48

/-- The request buffer's capacity (R133). -/
abbrev bufferCapacity : Nat := 2

/-- Ticks in a hundredth of a second: the halt boundary (R10), the unit of the holdoff (R28) and of the
minimum interval (R48). -/
abbrev ticksPerHundredth : Nat := 100

/-- Ticks in a second (R31, R49, R154). -/
abbrev ticksPerSecond : Nat := 10000

/-- The retry period of 250 ms in ticks (R152). -/
abbrev retryPeriod : Nat := 2500

/-- The expiries without progress after which the session goes SILENT (R153). -/
abbrev retryLimit : Nat := 6

/-- The longest gap between characters of one frame, 10 ms in ticks (R126). -/
abbrev characterGap : Nat := 100

/-- How long RXD is low for a break, 2 ms in ticks (R128). -/
abbrev breakTime : Nat := 20

/-- The sync byte (R124). -/
abbrev sync : Byte := 0xD3

/-- The least and the greatest length byte the receiver accepts (R124). -/
abbrev minLength : Nat := 4
abbrev maxLength : Nat := 244

/-- The part code and revision that STATUS shows (R145). -/
abbrev partCode : Byte := 208
abbrev revision : Byte := 1

/-- FREE VALUE: at the `n`-th meeting of two events that the manual lets be taken in either order within one step of the
model, whether the one that the step does not name comes first: the take of the request in front before a link reset
(R130), or the taking of the report before a reply become present with it (R139). Log entry 20. -/
opaque meeting : Nat → Bool

/-- The eight gates, and the 24 slots in ascending order. -/
abbrev allGates : List Gate := [0, 1, 2, 3, 4, 5, 6, 7]
abbrev allSlots : List Slot :=
  [0, 1, 2, 3, 4, 5, 6, 7, 8, 9, 10, 11, 12, 13, 14, 15, 16, 17, 18, 19, 20, 21, 22, 23]

end Sys2Proof.Config
end

