-- ==== Sys2Proof/Machine/State.lean ====
section
/-! DEFINITION. The state of the LK-208, block by block as the manual divides the part (00_scope, Blocks), with the
queue of waiting commands, the reasons a step can stop, and the state after reset. All of it is plain data. -/

namespace Sys2Proof.Machine

/-- Reasons the machine stops with a fault: none. The manual names no condition that stops the part; every
command it describes leaves a next state. -/
inductive Fault where
  deriving DecidableEq, Repr

/-- Reasons a command has no meaning. -/
inductive Refusal where
  /-- Raised by `exec` for a row of the table that has no meaning yet. No arm raises it. Safe: nothing is claimed
  of such a row. -/
  | notModelled (mnemonic : String)
  deriving DecidableEq, Repr

/-! ## The Race Clock (Chapter 1) -/

/-- The name of a clock state, as a CLOCK STATE report carries it (R16, R163). -/
inductive ClockMode where
  | idle | armed | running | halting | halted
  deriving DecidableEq, Repr

/-- The clock state, with the two items that are present in one state only: the trigger gate in ARMED and the halt
target in HALTING (R2). -/
inductive ClockState where
  | idle
  | armed (trigger : Gate)
  | running
  | halting (target : Tick)
  | halted
  deriving DecidableEq, Repr

/-- The Race Clock's state (R2). -/
structure RaceClock where
  state : ClockState
  count : Tick
  deriving DecidableEq, Repr

/-- The reason of a CLOCK STATE report (R16). -/
inductive ClockReason where
  | request | trigger | boundary | limit
  deriving DecidableEq, Repr

/-! ## The Gate Units (Chapter 2) -/

/-- The input level that counts as active (R17). -/
inductive Polarity where
  | activeLow | activeHigh
  deriving DecidableEq, Repr

/-- The six configuration fields of a gate (R17). -/
structure GateConfig where
  enabled        : Bool
  polarity       : Polarity
  qualifyWidth   : Byte
  holdoff        : Byte
  blockAlarmTime : Byte
  rawReport      : Bool
  deriving DecidableEq, Repr

/-- The gate state with the items present in it (R21). QUALIFYING also holds the tick instant `edge` of the leading
edge, from which R25 measures the qualify width and R28 sets the active-since mark. DISABLED holds the instant at
which an enabling SET GATE was taken, while the gate awaits its first sample (R19). -/
inductive GatePhase where
  | disabled (enabledAt : Option Instant)
  | idle
  | qualifying (edgeTime : Tick) (edge : Instant) (stale : Bool)
  | holdoff (holdoffEnd : Instant) (activeSince : Instant)
  | blocked (activeSince : Instant)
  deriving DecidableEq, Repr

/-- The four counters of a gate, each saturating at 65,535 (R32). -/
structure GateCounters where
  accepted : Word
  short    : Word
  ignored  : Word
  lost     : Word
  deriving DecidableEq, Repr

/-- One Gate Unit (R17, R21, R32). -/
structure GateUnit where
  config      : GateConfig
  phase       : GatePhase
  alarmRaised : Bool
  counters    : GateCounters
  deriving DecidableEq, Repr

/-- A GATE ALARM report's condition (R31). -/
inductive AlarmCondition where
  | blocked | cleared
  deriving DecidableEq, Repr

/-! ## The Crossing Queue (Chapter 3) -/

/-- The source of a crossing (R34). -/
inductive CrossingSource where
  | sensor | manual
  deriving DecidableEq, Repr

/-- A crossing record (R34). -/
structure Crossing where
  id     : Tick
  gate   : Gate
  time   : Tick
  source : CrossingSource
  deriving DecidableEq, Repr

/-- The Crossing Queue: its records, head first, and the next crossing id (R35, R36). -/
structure CrossingQueue where
  records : List Crossing
  nextId  : Tick
  deriving DecidableEq, Repr

/-! ## The Course Tracker (Chapters 4 to 7) -/

/-- The start mode of a course (R50). -/
inductive StartMode where
  | gate | group
  deriving DecidableEq, Repr

/-- A step of a course: its gate, absent at step 0 of a GROUP course, and its minimum interval in units of 10 ms,
absent at step 0 (R46). -/
structure CourseStep where
  gate        : Option Gate
  minInterval : Option Word
  deriving DecidableEq, Repr

/-- A course record (R46). -/
structure Course where
  number        : Byte
  mode          : StartMode
  steps         : List CourseStep
  maxCourseTime : Word
  deriving DecidableEq, Repr

/-- What a split was made from: a crossing, with its gate, id and source, or a group start, which has neither gate
nor crossing id (R63). -/
inductive SplitOrigin where
  | crossing (gate : Gate) (id : Tick) (source : CrossingSource)
  | group
  deriving DecidableEq, Repr

/-- A split record (R63). -/
structure Split where
  step         : Nat
  origin       : SplitOrigin
  time         : Tick
  hostAssigned : Bool
  deriving DecidableEq, Repr

/-- The five states of a run (R62). -/
inductive RunState where
  | staged | onCourse | finished | notFinished | withdrawn
  deriving DecidableEq, Repr

/-- The end reason of a run (R62). -/
inductive EndReason where
  | finished | overTime | withdrawn
  deriving DecidableEq, Repr

/-- A run record (R62). -/
structure Run where
  number       : Word
  state        : RunState
  courseNumber : Byte
  stepCount    : Nat
  splits       : List Split
  deadline     : Option Tick
  endReason    : Option EndReason
  corrected    : Bool
  deriving DecidableEq, Repr

/-- Why a crossing was filed (R103). -/
inductive FilingReason where
  | noStep | noRun | tooSoon | voided
  deriving DecidableEq, Repr

/-- An Unassigned List entry (R103). -/
structure UnassignedEntry where
  crossing : Crossing
  reason   : FilingReason
  deriving DecidableEq, Repr

/-- The assignment state (R86). -/
inductive AssignmentState where
  | taking | held
  deriving DecidableEq, Repr

/-- The Course Tracker: the course if there is one (R46), one expectation queue per step, head first (R83), the Run
Table, `none` for a FREE slot (R59), the Unassigned List, oldest first (R103), and the assignment state (R86). -/
structure CourseTracker where
  course     : Option Course
  queues     : List (List Slot)
  runs       : Vector (Option Run) 24
  unassigned : List UnassignedEntry
  assignment : AssignmentState
  deriving DecidableEq, Repr

/-! ## Reports (Chapter 9) -/

/-- The cause in a RESET report (R160). -/
inductive ResetCause where
  | external | request
  deriving DecidableEq, Repr

/-- The cause in a HOLD RELEASED report (R89). -/
inductive ReleaseCause where
  | sessionClosed | sessionSilent | linkReset
  deriving DecidableEq, Repr

/-- The source in a RUN STARTED report (R159). -/
inductive SplitSource where
  | sensor | manual | group
  deriving DecidableEq, Repr

/-- The kind and body of a report (R159). -/
inductive ReportBody where
  | reset (cause : ResetCause)
  | clockState (state : ClockMode) (reason : ClockReason)
  | crossing (crossing : Crossing)
  | crossingLost (gate : Gate) (time : Tick)
  | runStarted (run : Word) (slot : Slot) (time : Tick) (source : SplitSource)
  | split (run : Word) (step : Nat) (gate : Gate) (crossingId : Tick) (time elapsed segment : Tick)
      (hostAssigned : Bool)
  | runEnded (run : Word) (reason : EndReason) (elapsed : Option Tick)
  | unassigned (id : Tick) (gate : Gate) (time : Tick) (reason : FilingReason)
  | unassignedDropped (id : Tick) (gate : Gate)
  | gateAlarm (gate : Gate) (condition : AlarmCondition)
  | holdReleased (cause : ReleaseCause)
  deriving DecidableEq, Repr

/-- The delivery status of a stored report (R149). -/
inductive Delivery where
  | unsent | inFlight
  deriving DecidableEq, Repr

/-- A stored report (R146). -/
structure Report where
  sequence : Word
  body     : ReportBody
  created  : Tick
  lost     : Option Word
  delivery : Delivery
  deriving DecidableEq, Repr

/-! ## The Session and the Report Queue (Chapter 9) -/

/-- The session state (R141). -/
inductive SessionState where
  | closed | opened | silent
  deriving DecidableEq, Repr

/-- The Session and Report Queue (R141). A running timer holds the tick instant of its expiry; reports stand oldest
first (R146). -/
structure Session where
  state          : SessionState
  window         : Byte
  keepalive      : Byte
  retryCount     : Nat
  retryTimer     : Option Instant
  keepaliveTimer : Option Instant
  reports        : List Report
  pendingLoss    : Word
  nextSequence   : Word
  deriving DecidableEq, Repr

/-! ## The Link Controller and the Request Handler (Chapter 8) -/

/-- The status codes of replies (R168). -/
inductive Status where
  | ok | busy | unknownRequest | badLength | badValue | notOpen | wrongState | notFound | tableFull | duplicate
  | courseInUse | runsActive | queueFull | outOfOrder | deadlinePassed | noCourse
  deriving DecidableEq, Repr

/-- The receiver's state; LENGTH has the sync byte behind it, BODY the length byte and the characters collected
after it, in order of arrival (R124). LAPSED is the model's: LENGTH or BODY after 10 ms without a new character, while it
is open whether RXD fell within them for a break or a framing error, which is decided up to 2 ms later (R126; log
entry 13). -/
inductive Receiver where
  | hunting
  | length
  | body (len : Byte) (characters : List Byte)
  | lapsed
  deriving DecidableEq, Repr

/-- The state of a request buffer entry, with the reply frame once it is built (R133). An entry in EXECUTING is the
Request Handler's request in hand (R136). -/
inductive EntryState where
  | waiting
  | executing
  | ready (reply : List Byte)
  | sending (reply : List Byte)
  deriving DecidableEq, Repr

/-- A request in the request buffer (R133). Its ack was handed on at its arrival (R131). -/
structure RequestEntry where
  code    : Byte
  tag     : Byte
  payload : List Byte
  state   : EntryState
  deriving DecidableEq, Repr

/-- The reply cache's entry (R134). -/
structure CachedReply where
  code  : Byte
  tag   : Byte
  reply : List Byte
  deriving DecidableEq, Repr

/-- The transmitter: free, or sending a frame of the kind given, with the frame's characters (R138). TXD is high
while it is free. -/
inductive Transmitter where
  | free
  | shortReply (frame : List Byte)
  | bufferReply (frame : List Byte)
  | report (sequence : Word) (frame : List Byte)
  deriving DecidableEq, Repr

/-- The four bit rates (R123). -/
inductive LinkRate where
  | bps115200 | bps230400 | bps460800 | bps921600
  deriving DecidableEq, Repr

/-- The Link Controller. `buffer` holds the occupied entries in order of arrival (R133); `breakHeld` says that RXD
has been low since a detected break (R128); `lastCharacter` is the instant of the last character received, from
which R126 measures the gap; `inHand` is the request that a link reset found in hand, until it completes its effect
(R130); `openChoice` says that no reply was present when the transmitter last became free, or at the last tick instant
if that is later, so that a reply present now has become present since (R139; log entry 20). -/
structure LinkController where
  rate          : LinkRate
  receiver      : Receiver
  breakHeld     : Bool
  lastCharacter : Instant
  buffer        : List RequestEntry
  shortReply    : Option (List Byte)
  replyCache    : Option CachedReply
  inHand        : Option RequestEntry
  transmitter   : Transmitter
  openChoice    : Bool
  badFrames     : Word
  deriving DecidableEq, Repr

/-- The input pins as the part has seen them: whether RSTn is low (R170), and the levels of G7 to G0 at the last tick
instant and at the one before it (R22). -/
structure Pins where
  resetLow   : Bool
  levels     : Byte
  prevLevels : Byte
  deriving DecidableEq, Repr

end Sys2Proof.Machine

namespace Sys2Proof.Machine

/-- The whole part, with the number of the last tick instant (R1), the number of meetings whose order was taken from the
free value, and the queue of waiting commands, front first. DESIGN CHOICE for the model's own fields (log entries 6, 12
and 20). -/
structure State where
  clock     : RaceClock
  gates     : Vector GateUnit 8
  crossings : CrossingQueue
  tracker   : CourseTracker
  link      : LinkController
  session   : Session
  pins      : Pins
  instant   : Instant
  meetings  : Nat
  pending   : List Instr
  deriving DecidableEq, Repr

/-- A gate's configuration after external reset and RESET PART (R17). -/
def GateConfig.reset : GateConfig where
  enabled        := false
  polarity       := .activeLow
  qualifyWidth   := 10
  holdoff        := 20
  blockAlarmTime := 5
  rawReport      := false

/-- A Gate Unit after external reset and RESET PART (R17, R21, R32). -/
def GateUnit.reset : GateUnit where
  config      := GateConfig.reset
  phase       := .disabled none
  alarmRaised := false
  counters    := ⟨0, 0, 0, 0⟩

/-- The Course Tracker after external reset and RESET PART (R58, R60, R86, R103). -/
def CourseTracker.reset : CourseTracker where
  course     := none
  queues     := []
  runs       := Vector.replicate 24 none
  unassigned := []
  assignment := .taking

/-- The Link Controller after external reset at the given rate (R124, R127, R133, R134). -/
def LinkController.reset (rate : LinkRate) : LinkController where
  rate          := rate
  receiver      := .hunting
  breakHeld     := false
  lastCharacter := 0
  buffer        := []
  shortReply    := none
  replyCache    := none
  inHand        := none
  transmitter   := .free
  openChoice    := true
  badFrames     := 0

/-- The Session after a reset of the whole part with the given cause (R141, R160). -/
def Session.reset (cause : ResetCause) : Session where
  state          := .closed
  window         := 1
  keepalive      := 0
  retryCount     := 0
  retryTimer     := none
  keepaliveTimer := none
  reports        := [{ sequence := 1, body := .reset cause, created := 0, lost := none, delivery := .unsent }]
  pendingLoss    := 0
  nextSequence   := 2

/-- The machine right after external reset (R169). DESIGN CHOICE: both baud straps read low, and the gate levels read
low before the first tick instant (log entries 3 and 4). -/
def State.reset : State where
  clock     := ⟨.idle, 0⟩
  gates     := Vector.replicate 8 GateUnit.reset
  crossings := ⟨[], 1⟩
  tracker   := CourseTracker.reset
  link      := LinkController.reset .bps115200
  session   := Session.reset .external
  pins      := ⟨false, 0, 0⟩
  instant   := 0
  meetings  := 0
  pending   := []

end Sys2Proof.Machine
end

