-- ==== Sys2Proof/Machine/Flags.lean ====
section
/-! DEFINITION. What is read off the state without changing it: the clock's and the gates' conditions, the session's
counts, the HLOST line, the request the Request Handler would take, and the questions the Run Table, the expectation
queues and the Crossing Queue answer. -/

namespace Sys2Proof.Machine

/-! ## The Race Clock -/

/-- The clock state's name (R2). -/
def ClockState.mode : ClockState → ClockMode
  | .idle => .idle
  | .armed _ => .armed
  | .running => .running
  | .halting _ => .halting
  | .halted => .halted

/-- Whether the count increases at tick instants (R1). -/
def ClockState.counting : ClockState → Bool
  | .running | .halting _ => true
  | .idle | .armed _ | .halted => false

/-- The trigger gate, present in ARMED only (R2). -/
def ClockState.triggerGate : ClockState → Option Gate
  | .armed g => some g
  | .idle | .running | .halting _ | .halted => none

/-- The halt target, present in HALTING only (R2). -/
def ClockState.haltTarget : ClockState → Option Tick
  | .halting t => some t
  | .idle | .armed _ | .running | .halted => none

/-! ## The Gate Units -/

/-- A gate's unit. -/
def State.gate (s : State) (g : Gate) : GateUnit := s.gates[g]

/-- Whether a level is the active one of a polarity (R17, R22). -/
def Polarity.isActive : Polarity → Bool → Bool
  | .activeLow, level => !level
  | .activeHigh, level => level

/-- Whether the gate's sample at the last tick instant is active (R22). -/
def State.sampleActive (s : State) (g : Gate) : Bool :=
  (s.gate g).config.polarity.isActive (s.pins.levels.getLsbD g)

/-- Whether the gate's sample at the tick instant before the last was active (R22). -/
def State.priorActive (s : State) (g : Gate) : Bool :=
  (s.gate g).config.polarity.isActive (s.pins.prevLevels.getLsbD g)

/-- An active sample that follows an inactive one (R22). -/
def State.edgeSampled (s : State) (g : Gate) : Bool := s.sampleActive g && !s.priorActive g

/-- The gate holds its fields as an enabled gate does (R4 reads this field). -/
def State.gateEnabled (s : State) (g : Gate) : Bool := (s.gate g).config.enabled

/-! ## The Crossing Queue -/

/-- The Crossing Queue's answer to the Course Tracker: whether it holds a crossing timed at or before `t` (R42). -/
def CrossingQueue.holdsUpTo (q : CrossingQueue) (t : Tick) : Bool := q.records.any (fun c => c.time ≤ t)

/-! ## Courses, runs and expectation queues -/

/-- The gate of step `k`, if the course has that step and it has a gate (R46). -/
def Course.gateOf (c : Course) (k : Nat) : Option Gate := c.steps[k]?.bind (·.gate)

/-- The minimum interval of step `k` in ticks (R48). -/
def Course.intervalTicks (c : Course) (k : Nat) : Nat :=
  Config.ticksPerHundredth * ((c.steps[k]?.bind (·.minInterval)).getD 0).toNat

/-- Whether some step of the course uses gate `g` (R91). -/
def Course.usesGate (c : Course) (g : Gate) : Bool := c.steps.any (fun st => st.gate == some g)

/-- The deadline of a run that starts on the course at `t` (R73). -/
def Course.deadlineFrom (c : Course) (t : Tick) : Option Tick :=
  if c.maxCourseTime = 0 then none
  else some (BitVec.ofNat 32
    (min (t.toNat + Config.ticksPerSecond * c.maxCourseTime.toNat) Config.countLimit.toNat))

/-- The run in a slot, `none` when the slot is FREE (R59). -/
def State.run (s : State) (i : Slot) : Option Run := s.tracker.runs[i]

/-- The slot and record of the run a request names (R59). -/
def State.findRun (s : State) (n : Word) : Option (Slot × Run) :=
  Config.allSlots.findSome? fun i =>
    match s.run i with
    | some r => if r.number = n then some (i, r) else none
    | none => none

/-- The FREE slot with the lowest number (R67). -/
def State.freeSlot (s : State) : Option Slot := Config.allSlots.find? fun i => (s.run i).isNone

/-- Whether any non-free slot holds a run for which `p` holds (R82). -/
def State.anyRun (s : State) (p : Run → Bool) : Bool := Config.allSlots.any fun i => (s.run i).any p

/-- The Run Table's occupancy (R59). -/
def State.occupancy (s : State) : Nat := (Config.allSlots.filter fun i => (s.run i).isSome).length

/-- The expectation queue of step `k`, head first (R83). -/
def State.queue (s : State) (k : Nat) : List Slot := s.tracker.queues.getD k []

/-- STAGED and ON_COURSE are the active states (R82, 5.4). -/
def RunState.active : RunState → Bool
  | .staged | .onCourse => true
  | .finished | .notFinished | .withdrawn => false

/-- The time of a run's last split (R93, R112). -/
def Run.lastTime (r : Run) : Option Tick := r.splits.getLast?.map (·.time)

/-- The time of a run's step-0 split (R80). -/
def Run.startTime (r : Run) : Option Tick := r.splits.head?.map (·.time)

/-- The step a run awaits: step 0 when STAGED, step k when ON_COURSE with k splits (R112). -/
def Run.awaitedStep (r : Run) : Nat := r.splits.length

/-- Whether a run is ON_COURSE with a deadline earlier than `t` (R92). -/
def Run.overdueAt (r : Run) (t : Tick) : Bool :=
  r.state == .onCourse && r.deadline.any (fun d => d < t)

/-- Whether the run in a slot is ON_COURSE with a deadline earlier than `t` (R92). -/
def State.overdue (s : State) (t : Tick) (i : Slot) : Bool := (s.run i).any (·.overdueAt t)

/-- Whether the run in a slot ends over time at an examination: it is ON_COURSE, the count is at or above its
deadline, and the Crossing Queue holds no crossing timed at or before it (R100). -/
def State.expires (s : State) (i : Slot) : Bool :=
  (s.run i).any fun r => r.state == .onCourse &&
    r.deadline.any (fun d => decide (d ≤ s.clock.count) && !s.crossings.holdsUpTo d)

/-- A split's source (R63). -/
def SplitOrigin.source : SplitOrigin → SplitSource
  | .crossing _ _ .sensor => .sensor
  | .crossing _ _ .manual => .manual
  | .group => .group

/-- The crossing a split was made from, as VOID SPLIT files it again (R117). -/
def Split.crossing? (sp : Split) : Option Crossing :=
  match sp.origin with
  | .crossing g id src => some ⟨id, g, sp.time, src⟩
  | .group => none

/-! ## The Session -/

/-- The number of reports in flight (R150). -/
def Session.inFlight (ss : Session) : Nat := (ss.reports.filter fun r => r.delivery == .inFlight).length

/-- The number of unsent reports (R145). -/
def Session.unsent (ss : Session) : Nat := (ss.reports.filter fun r => r.delivery == .unsent).length

/-- HLOST is active exactly while the session is SILENT, and released while RSTn is low (R156). -/
def State.hlost (s : State) : Bool := s.session.state == .silent && !s.pins.resetLow

/-! ## The Link Controller -/

/-- RESET PART passes the generic checks exactly when its payload is empty (R140). -/
def RequestEntry.isPartReset (e : RequestEntry) : Bool := e.code == 0x05 && e.payload.isEmpty

/-- The entry waits for the Request Handler (R133). -/
def RequestEntry.isWaiting (e : RequestEntry) : Bool := e.state == .waiting

/-- The entry is the Request Handler's request in hand (R133, R136). -/
def RequestEntry.isExecuting (e : RequestEntry) : Bool := e.state == .executing

/-- A RESET PART has been taken and its reply is not yet sent: the part's reset is decided (R140). -/
def State.resetDecided (s : State) : Bool :=
  s.link.buffer.any fun e => e.isPartReset && !e.isWaiting

/-- The Request Handler holds a request: the EXECUTING entry of the buffer (R136), or one whose entry a link reset took
away (R130). -/
def LinkController.holdsRequest (l : LinkController) : Bool := l.buffer.any (·.isExecuting) || l.inHand.isSome

/-- The request the Request Handler takes next: the WAITING request that arrived first, when it holds no request
(R136); and none once a reset of the part is decided (R140). -/
def State.nextRequest (s : State) : Option RequestEntry :=
  if s.resetDecided || s.link.holdsRequest then none else s.link.buffer.find? (·.isWaiting)

/-- The report the Session offers to the transmitter: the oldest unsent one, under the four conditions of R149. -/
def State.offeredReport (s : State) : Option Report :=
  if s.session.state = .opened ∧ s.session.inFlight < s.session.window.toNat ∧ s.resetDecided = false then
    s.session.reports.find? fun r => r.delivery == .unsent
  else none

/-- A READY entry's reply (R138). -/
def RequestEntry.readyReply (e : RequestEntry) : Option (List Byte) :=
  match e.state with
  | .ready f => some f
  | .waiting | .executing | .sending _ => none

/-- A reply is present at the transmitter: in the short reply slot or in a READY entry (R138). -/
def LinkController.replyPresent (l : LinkController) : Bool :=
  l.shortReply.isSome || l.buffer.any (·.readyReply.isSome)

/-- The entry's reply is on TXD (R133). -/
def RequestEntry.isSending (e : RequestEntry) : Bool :=
  match e.state with
  | .sending _ => true
  | .waiting | .executing | .ready _ => false

/-- The frame on TXD, if one is being sent (R138). TXD is high otherwise (R123). -/
def State.txdFrame (s : State) : Option (List Byte) :=
  match s.link.transmitter with
  | .free => none
  | .shortReply f | .bufferReply f | .report _ f => some f

end Sys2Proof.Machine
end

