-- ==== Sys2Proof/Machine/Operands.lean ====
section
/-! DEFINITION. The bytes of the link (Chapter 10): field encoding, the CRC, the outer frame, the arguments of each
request as its payload carries them, and the bytes of replies and reports. -/

namespace Sys2Proof.Machine

/-! ## Fields (R163, R164) -/

/-- A two-byte field from its bytes, most significant first (R163). -/
def word16 (hi lo : Byte) : Word := hi ++ lo

/-- A four-byte field from its bytes, most significant first (R163). -/
def word32 (b3 b2 b1 b0 : Byte) : Tick := (b3 ++ b2) ++ (b1 ++ b0)

/-- The bytes of a two-byte field (R163). -/
def bytes16 (w : Word) : List Byte := [w.extractLsb' 8 8, w.extractLsb' 0 8]

/-- The bytes of a four-byte field (R163). -/
def bytes32 (t : Tick) : List Byte :=
  [t.extractLsb' 24 8, t.extractLsb' 16 8, t.extractLsb' 8 8, t.extractLsb' 0 8]

/-- A one-byte number. -/
def byteOf (n : Nat) : Byte := BitVec.ofNat 8 n

/-- A yes/no field (R163). -/
def yesNo (b : Bool) : Byte := if b then 1 else 0

/-- A yes/no field of a request: any other value is refused (R163). -/
def parseYesNo (b : Byte) : Option Bool :=
  if b = 0 then some false else if b = 1 then some true else none

/-- A gate that must be present (R164). -/
def parseGate (b : Byte) : Option Gate := if h : b.toNat < 8 then some ⟨b.toNat, h⟩ else none

/-- A run number, 1 to 65,535 (R62). -/
def parseRunNumber (hi lo : Byte) : Option Word :=
  if word16 hi lo = 0 then none else some (word16 hi lo)

/-- A step number, 0 to 11 (R105, R107). -/
def parseStep (b : Byte) : Option Nat := if b.toNat ≤ 11 then some b.toNat else none

/-- The codes of the named values (R163). -/
def ClockMode.code : ClockMode → Byte
  | .idle => 0 | .armed => 1 | .running => 2 | .halting => 3 | .halted => 4
def ClockReason.code : ClockReason → Byte
  | .request => 0 | .trigger => 1 | .boundary => 2 | .limit => 3
def GatePhase.code : GatePhase → Byte
  | .disabled _ => 0 | .idle => 1 | .qualifying .. => 2 | .holdoff .. => 3 | .blocked _ => 4
def Polarity.code : Polarity → Byte
  | .activeLow => 0 | .activeHigh => 1
def StartMode.code : StartMode → Byte
  | .gate => 0 | .group => 1
def RunState.code : RunState → Byte
  | .staged => 1 | .onCourse => 2 | .finished => 3 | .notFinished => 4 | .withdrawn => 5
def EndReason.code : EndReason → Byte
  | .finished => 1 | .overTime => 2 | .withdrawn => 3
def CrossingSource.code : CrossingSource → Byte
  | .sensor => 0 | .manual => 1
def SplitSource.code : SplitSource → Byte
  | .sensor => 0 | .manual => 1 | .group => 2
def FilingReason.code : FilingReason → Byte
  | .noStep => 1 | .noRun => 2 | .tooSoon => 3 | .voided => 4
def AlarmCondition.code : AlarmCondition → Byte
  | .blocked => 0 | .cleared => 1
def ReleaseCause.code : ReleaseCause → Byte
  | .sessionClosed => 0 | .sessionSilent => 1 | .linkReset => 2
def ResetCause.code : ResetCause → Byte
  | .external => 0 | .request => 1
def SessionState.code : SessionState → Byte
  | .closed => 0 | .opened => 1 | .silent => 2
def AssignmentState.code : AssignmentState → Byte
  | .taking => 0 | .held => 1

/-- The status codes (R168). -/
def Status.code : Status → Byte
  | .ok => 0x00 | .busy => 0x01 | .unknownRequest => 0x02 | .badLength => 0x03 | .badValue => 0x04
  | .notOpen => 0x05 | .wrongState => 0x06 | .notFound => 0x07 | .tableFull => 0x08 | .duplicate => 0x09
  | .courseInUse => 0x0A | .runsActive => 0x0B | .queueFull => 0x0C | .outOfOrder => 0x0D
  | .deadlinePassed => 0x0E | .noCourse => 0x0F

/-! ## The outer frame (R161, R162) -/

/-- One left shift of the CRC register (R161). -/
def crcShift (crc : Word) : Word := if crc.getLsbD 15 then (crc <<< 1) ^^^ 0x1021 else crc <<< 1

/-- The CRC register after one more covered byte (R161). -/
def crcByte (crc : Word) (b : Byte) : Word :=
  Nat.repeat crcShift 8 (crc ^^^ (b ++ (0 : Byte)))

/-- The CRC-16 over the covered bytes (R125, R161). -/
def crc16 (covered : List Byte) : Word := covered.foldl crcByte 0xFFFF

/-- The frame with the given body: sync, length byte, body, CRC (10.1, R161, R162). -/
def frameOf (body : List Byte) : List Byte :=
  let covered := byteOf body.length :: body
  Config.sync :: covered ++ bytes16 (crc16 covered)

/-! ## Requests (R165) -/

/-- Whether a payload has the length the table gives for a code; `none` for a code that names no request. For SET
COURSE the length follows from the step count byte (R165). -/
def payloadFits (code : Byte) (p : List Byte) : Option Bool :=
  match code.toNat with
  | 0x01 => some (p.length == 3)
  | 0x02 | 0x03 | 0x04 | 0x05 => some (p.length == 0)
  | 0x10 => some (p.length == 7)
  | 0x11 => some (p.length == 2)
  | 0x18 => some (p.length == 1)
  | 0x19 => some (p.length == 0)
  | 0x1A => some (p.length == 5)
  | 0x1B | 0x1C | 0x1D | 0x1E => some (p.length == 0)
  | 0x20 => some (5 ≤ p.length && p.length == 5 + 3 * (p.getD 2 0).toNat)
  | 0x21 => some (p.length == 0)
  | 0x28 | 0x29 => some (p.length == 2)
  | 0x2A => some (p.length == 5)
  | 0x2B | 0x2C => some (p.length == 2)
  | 0x2D | 0x30 | 0x31 => some (p.length == 0)
  | 0x32 => some (p.length == 5)
  | 0x33 => some (p.length == 6)
  | 0x34 => some (p.length == 2)
  | 0x35 => some (p.length == 4)
  | 0x36 => some (p.length == 1)
  | 0x37 => some (p.length == 0)
  | 0x38 => some (p.length == 5)
  | _ => none

/-- The requests that pass generic check 3 in a CLOSED session: OPEN SESSION, PING, STATUS, RESET PART (R136). -/
def passesClosed (code : Byte) : Bool := code == 0x01 || code == 0x03 || code == 0x04 || code == 0x05

/-- The first of generic checks 1 to 3 that fails (R136). -/
def genericRefusal (session : SessionState) (r : RequestEntry) : Option Status :=
  match payloadFits r.code r.payload with
  | none => some .unknownRequest
  | some false => some .badLength
  | some true => if session = .closed ∧ passesClosed r.code = false then some .notOpen else none

/-! The arguments of each request; `none` is generic check 4, BAD_VALUE (R136). -/

/-- A request without payload. -/
def parseNothing : List Byte → Option Unit
  | [] => some ()
  | _ :: _ => none

/-- OPEN SESSION: window, keepalive period, DISCARD (R142). -/
def parseOpenSession : List Byte → Option (Byte × Byte × Bool)
  | [w, k, f] =>
    if 1 ≤ w.toNat ∧ w.toNat ≤ 8 ∧ k.toNat ≤ 120 ∧ f.toNat ≤ 1 then some (w, k, f == 1) else none
  | _ => none

/-- The polarity field of SET GATE (R17). -/
def parsePolarity (b : Byte) : Option Polarity :=
  if b = 0 then some .activeLow else if b = 1 then some .activeHigh else none

/-- SET GATE: gate and the six fields, each in its range of R17 (R18). -/
def parseSetGate : List Byte → Option (Gate × GateConfig)
  | [g, e, p, q, h, b, r] => do
    let gate ← parseGate g
    let enabled ← parseYesNo e
    let polarity ← parsePolarity p
    let raw ← parseYesNo r
    if 1 ≤ q.toNat ∧ q.toNat ≤ 250 ∧ 1 ≤ b.toNat ∧ b.toNat ≤ 60 then
      some (gate, ⟨enabled, polarity, q, h, b, raw⟩)
    else none
  | _ => none

/-- GET GATE: gate and clear flag (R20). -/
def parseGetGate : List Byte → Option (Gate × Bool)
  | [g, c] => do
    let gate ← parseGate g
    let clear ← parseYesNo c
    some (gate, clear)
  | _ => none

/-- ARM CLOCK: trigger gate (R4). -/
def parseArmClock : List Byte → Option Gate
  | [g] => parseGate g
  | _ => none

/-- START CLOCK: preset, 0 when absent; 4,294,967,295 is refused (R8). -/
def parseStartClock : List Byte → Option Tick
  | [p, b3, b2, b1, b0] =>
    match parseYesNo p with
    | some false => some 0
    | some true => if word32 b3 b2 b1 b0 = Config.countLimit then none else some (word32 b3 b2 b1 b0)
    | none => none
  | _ => none

/-- The step entries of SET COURSE as raw fields (R165). -/
def rawSteps : List Byte → List (Byte × Word)
  | g :: hi :: lo :: rest => (g, word16 hi lo) :: rawSteps rest
  | _ => []

/-- Step 0 of SET COURSE: a gate on a GATE course, absent (0xFF) on a GROUP course, minimum interval 0 (R52). -/
def parseFirstStep (mode : StartMode) (e : Byte × Word) : Option CourseStep :=
  if e.2 = 0 then
    match mode with
    | .gate => (parseGate e.1).map fun g => ⟨some g, none⟩
    | .group => if e.1 = 0xFF then some ⟨none, none⟩ else none
  else none

/-- A later step of SET COURSE: a gate must be present (R52). -/
def parseLaterStep (e : Byte × Word) : Option CourseStep :=
  (parseGate e.1).map fun g => ⟨some g, some e.2⟩

/-- The start mode field (R52). -/
def parseStartMode (b : Byte) : Option StartMode :=
  if b = 0 then some .gate else if b = 1 then some .group else none

/-- SET COURSE: the course it carries (R52). -/
def parseSetCourse : List Byte → Option Course
  | number :: m :: n :: hi :: lo :: rest => do
    let mode ← parseStartMode m
    if number ≠ 0 ∧ 2 ≤ n.toNat ∧ n.toNat ≤ 12 then
      match rawSteps rest with
      | [] => none
      | e :: es => do
        let first ← parseFirstStep mode e
        let later ← es.mapM parseLaterStep
        some ⟨number, mode, first :: later, word16 hi lo⟩
    else none
  | _ => none

/-- A request that carries one run number: STAGE, WITHDRAW, READ and RELEASE RUN, VOID SPLIT (R67, R76, R79, R78,
R116). -/
def parseRun : List Byte → Option Word
  | [hi, lo] => parseRunNumber hi lo
  | _ => none

/-- START GROUP: the start time if present (R98). -/
def parseStartGroup : List Byte → Option (Option Tick)
  | [p, b3, b2, b1, b0] => (parseYesNo p).map fun present =>
      if present then some (word32 b3 b2 b1 b0) else none
  | _ => none

/-- SWAP RUNS: step, run A, run B (R109). -/
def parseSwapRuns : List Byte → Option (Nat × Word × Word)
  | [k, a1, a0, b1, b0] => do
    let step ← parseStep k
    let a ← parseRunNumber a1 a0
    let b ← parseRunNumber b1 b0
    some (step, a, b)
  | _ => none

/-- ASSIGN CROSSING: crossing id, run number (R112). -/
def parseAssignCrossing : List Byte → Option (Tick × Word)
  | [b3, b2, b1, b0, hi, lo] => (parseRunNumber hi lo).map fun n => (word32 b3 b2 b1 b0, n)
  | _ => none

/-- DISCARD CROSSING: crossing id (R121). -/
def parseDiscardCrossing : List Byte → Option Tick
  | [b3, b2, b1, b0] => some (word32 b3 b2 b1 b0)
  | _ => none

/-- READ QUEUE: step (R105). -/
def parseReadQueue : List Byte → Option Nat
  | [k] => parseStep k
  | _ => none

/-- MANUAL CROSSING: gate, time (R39). -/
def parseManualCrossing : List Byte → Option (Gate × Tick)
  | [g, b3, b2, b1, b0] => (parseGate g).map fun gate => (gate, word32 b3 b2 b1 b0)
  | _ => none

/-! ## Replies (R137, R166) -/

/-- A status with the payload that goes with it; only OK has one (R137). -/
structure Response where
  status  : Status
  payload : List Byte
  deriving DecidableEq, Repr

/-- The OK response with a payload. -/
def Response.ok (payload : List Byte := []) : Response := ⟨.ok, payload⟩

/-- A refusal: no payload (R137). -/
def Response.refuse (st : Status) : Response := ⟨st, []⟩

/-- The reply frame to a request: type 0x80 plus the code, tag, status, payload (R166). -/
def replyFrame (code tag : Byte) (r : Response) : List Byte :=
  frameOf ((0x80 + code) :: tag :: r.status.code :: r.payload)

/-- A gate field, 0xFF for absent (R164). -/
def gateField (g : Option Gate) : Byte := g.elim 0xFF (fun g => byteOf g)

/-- READ CLOCK's payload (R15, R166). -/
def clockPayload (c : RaceClock) : List Byte :=
  c.state.mode.code :: bytes32 c.count ++ gateField c.state.triggerGate :: bytes32 (c.state.haltTarget.getD 0)

/-- GET GATE's payload (R20, R166). -/
def gatePayload (u : GateUnit) : List Byte :=
  [yesNo u.config.enabled, u.config.polarity.code, u.config.qualifyWidth, u.config.holdoff,
    u.config.blockAlarmTime, yesNo u.config.rawReport, u.phase.code]
  ++ bytes16 u.counters.accepted ++ bytes16 u.counters.short ++ bytes16 u.counters.ignored
  ++ bytes16 u.counters.lost

/-- A step entry of the GET COURSE payload; an absent minimum interval is 0 (R166). -/
def stepEntry (st : CourseStep) : List Byte := gateField st.gate :: bytes16 (st.minInterval.getD 0)

/-- GET COURSE's payload: the course as SET COURSE carries one (R56, R166). -/
def coursePayload (c : Course) : List Byte :=
  c.number :: c.mode.code :: byteOf c.steps.length :: bytes16 c.maxCourseTime ++ c.steps.flatMap stepEntry

/-- STATUS's payload (R145, R166). -/
def statusPayload (s : State) : List Byte :=
  [Config.partCode, Config.revision, s.clock.state.mode.code] ++ bytes32 s.clock.count
  ++ [s.session.state.code, s.session.window, s.session.keepalive, s.tracker.assignment.code,
    byteOf s.crossings.records.length, byteOf s.tracker.unassigned.length, byteOf s.session.reports.length,
    byteOf s.session.unsent, byteOf s.session.inFlight, byteOf s.occupancy,
    (s.tracker.course.map (·.number)).getD 0]
  ++ bytes16 s.session.pendingLoss ++ bytes16 s.link.badFrames

/-- Elapsed time of a split of run `r`: its time less the step-0 split's (R80). -/
def Run.elapsedTo (r : Run) (t : Tick) : Tick := t - r.startTime.getD t

/-- The split descriptor (10.4): gate in bits 2 to 0, presence in bit 3, source in bits 5 and 4, host-assigned in
bit 6. -/
def splitDescriptor (sp : Split) : Byte :=
  let gatePart : Byte := match sp.origin with
    | .crossing g _ _ => byteOf g + 8
    | .group => 0
  gatePart + 16 * sp.origin.source.code + (if sp.hostAssigned then 64 else 0)

/-- A split entry of the READ RUN payload, given the time of the run's step-0 split and of the split before this one
(R79, R80, R166). -/
def splitEntry (start before : Tick) (sp : Split) : List Byte :=
  let id : Tick := match sp.origin with
    | .crossing _ id _ => id
    | .group => 0
  byteOf sp.step :: splitDescriptor sp :: bytes32 id ++ bytes32 sp.time ++ bytes32 (sp.time - start)
    ++ bytes32 (sp.time - before)

/-- The split entries in step order; the step-0 entry has elapsed 0 and segment 0 (R80, R166). -/
def splitEntries (start before : Tick) : List Split → List Byte
  | [] => []
  | sp :: rest => splitEntry start before sp ++ splitEntries start sp.time rest

/-- READ RUN's payload (R79, R166). -/
def runPayload (i : Slot) (r : Run) : List Byte :=
  let start := r.startTime.getD 0
  byteOf i :: bytes16 r.number ++ [r.state.code, r.courseNumber, byteOf r.stepCount, yesNo r.deadline.isSome]
  ++ bytes32 (r.deadline.getD 0) ++ [r.endReason.elim 0 EndReason.code, yesNo r.corrected, byteOf r.splits.length]
  ++ splitEntries start start r.splits

/-- An entry of the LIST RUNS payload (R81). -/
def listEntry (i : Slot) (r : Run) : List Byte :=
  byteOf i :: bytes16 r.number ++ [r.state.code, byteOf r.splits.length]

/-- LIST RUNS's payload: one entry per non-free slot in ascending order (R81, R166). -/
def listPayload (s : State) : List Byte :=
  byteOf s.occupancy :: Config.allSlots.flatMap fun i => (s.run i).elim [] (listEntry i)

/-- READ QUEUE's payload: step, run count, run numbers head first (R105, R166). -/
def queuePayload (s : State) (k : Nat) : List Byte :=
  byteOf k :: byteOf (s.queue k).length ::
    (s.queue k).flatMap fun i => bytes16 ((s.run i).elim 0 (·.number))

/-- An entry of the READ UNASSIGNED payload (R106). -/
def unassignedEntryBytes (e : UnassignedEntry) : List Byte :=
  bytes32 e.crossing.id ++ byteOf e.crossing.gate :: bytes32 e.crossing.time
    ++ [e.crossing.source.code, e.reason.code]

/-- READ UNASSIGNED's payload: every entry, oldest first (R106, R166). -/
def unassignedPayload (es : List UnassignedEntry) : List Byte :=
  byteOf es.length :: es.flatMap unassignedEntryBytes

/-! ## Reports (R167) -/

/-- The kind code (10.5). -/
def ReportBody.kind : ReportBody → Byte
  | .reset _ => 0x01 | .clockState .. => 0x02 | .crossing _ => 0x03 | .crossingLost .. => 0x04
  | .runStarted .. => 0x05 | .split .. => 0x06 | .runEnded .. => 0x07 | .unassigned .. => 0x08
  | .unassignedDropped .. => 0x09 | .gateAlarm .. => 0x0A | .holdReleased _ => 0x0B

/-- The fields of the report's kind (10.5). -/
def ReportBody.bytes : ReportBody → List Byte
  | .reset c => [c.code]
  | .clockState m r => [m.code, r.code]
  | .crossing c => bytes32 c.id ++ byteOf c.gate :: bytes32 c.time ++ [c.source.code]
  | .crossingLost g t => byteOf g :: bytes32 t
  | .runStarted n i t src => bytes16 n ++ byteOf i :: bytes32 t ++ [src.code]
  | .split n k g id t e sg h =>
    bytes16 n ++ byteOf k :: byteOf g :: bytes32 id ++ bytes32 t ++ bytes32 e ++ bytes32 sg ++ [yesNo h]
  | .runEnded n r e => bytes16 n ++ r.code :: bytes32 (e.getD 0)
  | .unassigned id g t r => bytes32 id ++ byteOf g :: bytes32 t ++ [r.code]
  | .unassignedDropped id g => bytes32 id ++ [byteOf g]
  | .gateAlarm g c => [byteOf g, c.code]
  | .holdReleased c => [c.code]

/-- The report frame, built from the stored record; its delivery status plays no part, so every sending of one
report gives the same characters (R167). -/
def reportFrame (r : Report) : List Byte :=
  frameOf (0xC0 :: bytes16 r.sequence ++
    match r.lost with
    | some n => (r.body.kind + 0x80) :: bytes32 r.created ++ bytes16 n ++ r.body.bytes
    | none => r.body.kind :: bytes32 r.created ++ r.body.bytes)

end Sys2Proof.Machine
end

