-- ==== Sys2Proof/Machine/Ops.lean ====
section
/-! DEFINITION. The named operations by which the commands change the state, each said once: storing a report, changing
the clock, a gate or a run, moving runs between expectation queues, filing and appending crossings, ending and advancing
runs, the passages of the session, the receiver, request intake, taking a request and building its reply, and the
resets. -/

namespace Sys2Proof.Machine

/-! ## Reports -/

/-- A report created at count `t` is stored at the newest end with the next sequence and the pending loss count
(R146); with 48 held it is refused and counted (R147). -/
def Session.store (ss : Session) (t : Tick) (b : ReportBody) : Session :=
  if ss.reports.length < Config.reportCapacity then
    { ss with
      reports := ss.reports ++
        [{ sequence := ss.nextSequence, body := b, created := t,
           lost := if ss.pendingLoss = 0 then none else some ss.pendingLoss, delivery := .unsent }]
      nextSequence := ss.nextSequence + 1
      pendingLoss := 0 }
  else { ss with pendingLoss := ss.pendingLoss.saturatingSucc }

/-- A block creates a report: its creation time is the count standing (R146). -/
def State.report (s : State) (b : ReportBody) : State :=
  { s with session := s.session.store s.clock.count b }

/-! ## The Race Clock and the gates -/

/-- A change of clock state to a new state and count, with its CLOCK STATE report, whose creation time is the count
after the change (R16). -/
def State.changeClock (s : State) (st : ClockState) (count : Tick) (why : ClockReason) : State :=
  ({ s with clock := ⟨st, count⟩ }).report (.clockState st.mode why)

/-- Replace a gate's unit. -/
def State.setGate (s : State) (g : Gate) (u : GateUnit) : State := { s with gates := s.gates.set g u }

/-- Change a gate's state alone. -/
def State.setPhase (s : State) (g : Gate) (p : GatePhase) : State := s.setGate g { s.gate g with phase := p }

/-- Change a gate's counters alone. -/
def State.setCounters (s : State) (g : Gate) (c : GateCounters) : State :=
  s.setGate g { s.gate g with counters := c }

/-- A Gate Unit told that the clock entered IDLE sets its stale mark if it is qualifying (R24). -/
def GateUnit.markStale (u : GateUnit) : GateUnit :=
  match u.phase with
  | .qualifying t e _ => { u with phase := .qualifying t e true }
  | .disabled _ | .idle | .holdoff .. | .blocked _ => u

/-- The Race Clock tells every Gate Unit that it entered IDLE (R24). -/
def State.staleNotice (s : State) : State :=
  { s with gates := #v[(s.gate 0).markStale, (s.gate 1).markStale, (s.gate 2).markStale, (s.gate 3).markStale,
      (s.gate 4).markStale, (s.gate 5).markStale, (s.gate 6).markStale, (s.gate 7).markStale] }

/-- The gate enters IDLE: its marks become absent, and a raised alarm is cleared and reported (R29, R30, R31). -/
def State.enterGateIdle (s : State) (g : Gate) : State :=
  let s' := s.setGate g { s.gate g with phase := .idle, alarmRaised := false }
  if (s.gate g).alarmRaised then s'.report (.gateAlarm g .cleared) else s'

/-! ## The Crossing Queue -/

/-- An append at the tail: the record takes the next crossing id, which advances by one (R35, R36), and a CROSSING
report is queued if the gate's raw report field is yes (R27, R40). DESIGN CHOICE: no deadline is examined at an append, as
in R100's list, though the text of R42 names one (log entry 23). -/
def State.appendCrossing (s : State) (g : Gate) (t : Tick) (src : CrossingSource) : State :=
  let c : Crossing := ⟨s.crossings.nextId, g, t, src⟩
  let s' := { s with crossings := ⟨s.crossings.records ++ [c], s.crossings.nextId + 1⟩ }
  if (s.gate g).config.rawReport then s'.report (.crossing c) else s'

/-- A Gate Unit offers a crossing: appended and counted accepted, or, with 32 held, refused, counted lost and reported
CROSSING LOST (R27, R38). -/
def State.offerCrossing (s : State) (g : Gate) (t : Tick) : State :=
  let n := (s.gate g).counters
  if s.crossings.records.length < Config.crossingCapacity then
    (s.setCounters g { n with accepted := n.accepted.saturatingSucc }).appendCrossing g t .sensor
  else
    (s.setCounters g { n with lost := n.lost.saturatingSucc }).report (.crossingLost g t)

/-! ## Runs and expectation queues -/

/-- Replace the record of a slot. -/
def State.setRun (s : State) (i : Slot) (r : Option Run) : State :=
  { s with tracker := { s.tracker with runs := s.tracker.runs.set i r } }

/-- Replace the expectation queues. -/
def State.setQueues (s : State) (qs : List (List Slot)) : State :=
  { s with tracker := { s.tracker with queues := qs } }

/-- A run leaves the queue in which it stands, wherever it stands in it (R83). -/
def State.dequeue (s : State) (i : Slot) : State :=
  s.setQueues (s.tracker.queues.map fun q => q.filter (· ≠ i))

/-- A run joins the tail of the queue of step `k` (R83). -/
def State.joinTail (s : State) (k : Nat) (i : Slot) : State :=
  s.setQueues (s.tracker.queues.modify k (· ++ [i]))

/-- A run is placed at the head of the queue of step `k` (R83, R117). -/
def State.joinHead (s : State) (k : Nat) (i : Slot) : State :=
  s.setQueues (s.tracker.queues.modify k (i :: ·))

/-- Replace the Unassigned List. -/
def State.setUnassigned (s : State) (es : List UnassignedEntry) : State :=
  { s with tracker := { s.tracker with unassigned := es } }

/-- Filing on the Unassigned List: with 16 held the oldest entry is first removed and UNASSIGNED DROPPED queued for it;
the new entry goes to the tail and UNASSIGNED is queued (R103). -/
def State.fileCrossing (s : State) (c : Crossing) (why : FilingReason) : State :=
  let room :=
    match s.tracker.unassigned with
    | oldest :: rest =>
      if rest.length + 1 < Config.unassignedCapacity then s
      else (s.setUnassigned rest).report (.unassignedDropped oldest.crossing.id oldest.crossing.gate)
    | [] => s
  (room.setUnassigned (room.tracker.unassigned ++ [⟨c, why⟩])).report (.unassigned c.id c.gate c.time why)

/-- The end of a run over time (R72). -/
def State.endOverTime (s : State) (i : Slot) : State :=
  match s.run i with
  | some r =>
    ((s.dequeue i).setRun i (some { r with state := .notFinished, endReason := some .overTime })).report
      (.runEnded r.number .overTime none)
  | none => s

/-- The start of a STAGED run with its step-0 split (R69). -/
def State.startRun (s : State) (i : Slot) (origin : SplitOrigin) (t : Tick) (host : Bool) : State :=
  match s.run i with
  | some r =>
    let r' := { r with
      splits := [⟨0, origin, t, host⟩]
      state := .onCourse
      deadline := s.tracker.course.bind (·.deadlineFrom t) }
    (((s.setRun i (some r')).dequeue i).joinTail 1 i).report (.runStarted r.number i t origin.source)
  | none => s

/-- The split of an ON_COURSE run at the step it awaits: before the last step it moves to the tail of the next queue
and SPLIT is queued (R70); at the last it is FINISHED, and SPLIT and RUN ENDED are queued (R71). -/
def State.addSplit (s : State) (i : Slot) (c : Crossing) (host : Bool) : State :=
  match s.run i with
  | some r =>
    let k := r.awaitedStep
    let r' := { r with splits := r.splits ++ [⟨k, .crossing c.gate c.id c.source, c.time, host⟩] }
    let elapsed := r.elapsedTo c.time
    let note : ReportBody := .split r.number k c.gate c.id c.time elapsed (c.time - r.lastTime.getD c.time) host
    if k + 1 < r.stepCount then
      (((s.setRun i (some r')).dequeue i).joinTail (k + 1) i).report note
    else
      (((s.setRun i (some { r' with state := .finished, endReason := some .finished })).dequeue i).report
        note).report (.runEnded r.number .finished (some elapsed))
  | none => s

/-- A run is given a crossing at the step it awaits (R96, R113). -/
def State.advance (s : State) (i : Slot) (c : Crossing) (host : Bool) : State :=
  match s.run i with
  | some r =>
    if r.state = .staged then s.startRun i (.crossing c.gate c.id c.source) c.time host
    else s.addSplit i c host
  | none => s

/-- One examination of the deadlines: the runs whose expiry completes end in ascending order of step, and within one
queue from head to tail (R100). DESIGN CHOICE: the clock-start event of a START CLOCK that starts no group is followed by
no examination, though its preset may pass the deadline of a run that stands ON_COURSE (log entry 19); and the one in
an ASSIGN CROSSING that starts a run is whole, of every run and not only of the run started (log entry 21). -/
def State.examineDeadlines (s : State) : State :=
  (s.tracker.queues.flatten.filter s.expires).foldl State.endOverTime s

/-- A group start: every STAGED run starts at `t`, in start-queue order (R98), and the deadlines the start gave are
examined (R100). -/
def State.groupStart (s : State) (t : Tick) : State :=
  ((s.queue 0).foldl (fun s i => s.startRun i .group t false) s).examineDeadlines

/-- The clock-start event: it starts the STAGED runs of a GROUP course, and in any other case changes nothing
(R9, R99). -/
def State.clockStartEvent (s : State) (t : Tick) : State :=
  match s.tracker.course with
  | some c => if c.mode = .group ∧ s.queue 0 ≠ [] then s.groupStart t else s
  | none => s

/-! ## The session -/

/-- Replace the Session. -/
def State.setSession (s : State) (ss : Session) : State := { s with session := ss }

/-- Every report in flight returns to unsent (R142, R143, R153, R155). -/
def recallReports (rs : List Report) : List Report := rs.map fun r => { r with delivery := .unsent }

/-- A departure of the session from OPEN is handed to the Course Tracker, which releases a hold and queues HOLD
RELEASED with the cause (R89, R157). -/
def State.departure (s : State) (why : ReleaseCause) : State :=
  match s.tracker.assignment with
  | .held => ({ s with tracker := { s.tracker with assignment := .taking } }).report (.holdReleased why)
  | .taking => s

/-- The session goes to the state `next`, CLOSED or SILENT: reports in flight return to unsent, the retry count becomes 0, both timers stop, and
a departure from OPEN is handed on (R129, R143, R155). -/
def State.leaveSession (s : State) (next : SessionState) (why : ReleaseCause) : State :=
  let s' := s.setSession { s.session with
    state := next, retryCount := 0, retryTimer := none, keepaliveTimer := none
    reports := recallReports s.session.reports }
  if s.session.state = .opened then s'.departure why else s'

/-- The keepalive timer as it starts now: stopped with a period of 0 (R154). -/
def keepaliveFrom (now : Instant) (period : Byte) : Option Instant :=
  if period = 0 then none else some (now + Config.ticksPerSecond * period.toNat)

/-- Whether an ack names a report in flight (R151). -/
def Session.acks (ss : Session) (ack : Word) : Bool :=
  ss.reports.any fun r => r.sequence == ack && r.delivery == .inFlight

/-- The reports left when the one an ack names and all older ones leave (R151). -/
def reportsAfter (ack : Word) (rs : List Report) : List Report := (rs.dropWhile fun r => r.sequence ≠ ack).tail

/-- The ack of an arriving request frame in an OPEN session (R151). -/
def Session.applyAck (ss : Session) (now : Instant) (ack : Word) : Session :=
  if ss.acks ack then
    let ss' := { ss with reports := reportsAfter ack ss.reports, retryCount := 0 }
    { ss' with retryTimer := if ss'.inFlight = 0 then none else some (now + Config.retryPeriod) }
  else ss

/-- What the Session does at the arrival of a CRC-good request frame (R131, R144). -/
def Session.arrival (ss : Session) (now : Instant) (ack : Word) : Session :=
  match ss.state with
  | .closed => ss
  | .opened => ({ ss with keepaliveTimer := keepaliveFrom now ss.keepalive }).applyAck now ack
  | .silent =>
    ({ ss with state := .opened, retryCount := 0, keepaliveTimer := keepaliveFrom now ss.keepalive }).applyAck now ack

/-! ## The Link Controller -/

/-- Replace the Link Controller. -/
def State.setLink (s : State) (l : LinkController) : State := { s with link := l }

/-- One discard of R127. -/
def State.countBadFrame (s : State) : State :=
  s.setLink { s.link with badFrames := s.link.badFrames.saturatingSucc }

/-- The receiver's next state. -/
def State.setReceiver (s : State) (r : Receiver) : State := s.setLink { s.link with receiver := r }

/-- A character has been received: the gap to the next is measured from now (R126). -/
def State.characterSeen (s : State) : State := s.setLink { s.link with lastCharacter := s.instant }

/-- Screening of an arrival by tag and code (R132). -/
def LinkController.screen (l : LinkController) (code tag : Byte) (payload : List Byte) : LinkController :=
  if tag ≠ 0 ∧ l.buffer.any (fun e => e.tag == tag && e.code == code) then l
  else
    match (if tag = 0 then none else l.replyCache.filter fun c => c.tag == tag && c.code == code) with
    | some c => if l.shortReply.isNone then { l with shortReply := some c.reply } else l
    | none =>
      if l.buffer.length < Config.bufferCapacity then
        { l with buffer := l.buffer ++ [⟨code, tag, payload, .waiting⟩] }
      else if l.shortReply.isNone then
        { l with shortReply := some (replyFrame code tag (.refuse .busy)) }
      else l

/-- Request intake of a CRC-good request frame: the ack goes to the Session, and then the arrival is screened
(R131, R132). -/
def State.intake (s : State) (code tag : Byte) (ack : Word) (payload : List Byte) : State :=
  let s' := s.setSession (s.session.arrival s.instant ack)
  s'.setLink (s'.link.screen code tag payload)

/-- A CRC-good frame with the given body: one whose type byte is a request's goes to intake, with the code, tag, ack
and payload of R165; any other is counted bad (R125). -/
def State.acceptFrame (s : State) (body : List Byte) : State :=
  match body with
  | code :: tag :: hi :: lo :: payload =>
    if code.toNat < 0x40 then s.intake code tag (word16 hi lo) payload else s.countBadFrame
  | _ => s.countBadFrame

/-- The receiver over a run of characters from HUNTING: it hunts for the sync byte, judges the length byte, collects
the body, and checks a complete frame. After a length out of range or a bad CRC the characters after the sync byte are
examined again; after a CRC-good frame the hunt goes on behind it (R124, R125). `fuel` is the number of characters;
each round uses up at least one. DEDUCED: the whole examination is one step (log entry 17). -/
def State.receive (s : State) : (fuel : Nat) → List Byte → State
  | 0, _ => s.setReceiver .hunting
  | _ + 1, [] => s.setReceiver .hunting
  | n + 1, c :: rest =>
    if c ≠ Config.sync then s.receive n rest
    else
      match rest with
      | [] => s.setReceiver .length
      | len :: more =>
        if len.toNat < Config.minLength ∨ Config.maxLength < len.toNat then s.countBadFrame.receive n (len :: more)
        else if more.length < len.toNat + 2 then s.setReceiver (.body len more)
        else
          let body := more.take len.toNat
          if (more.drop len.toNat).take 2 = bytes16 (crc16 (len :: body)) then
            (s.acceptFrame body).receive n (more.drop (len.toNat + 2))
          else s.countBadFrame.receive n (len :: more)

/-! ## The Request Handler -/

/-- Replace the first entry of the buffer for which `p` holds. -/
def replaceFirst (p : RequestEntry → Bool) (f : RequestEntry → RequestEntry) : List RequestEntry → List RequestEntry
  | [] => []
  | e :: es => if p e then f e :: es else e :: replaceFirst p f es

/-- Replace the request buffer. -/
def State.setBuffer (s : State) (b : List RequestEntry) : State := s.setLink { s.link with buffer := b }

/-- The Request Handler takes the WAITING request that arrived first, which enters EXECUTING (R136). -/
def State.takeRequest (s : State) : State :=
  s.setBuffer (replaceFirst (·.isWaiting) (fun e => { e with state := .executing }) s.link.buffer)

/-- The reply to the request in hand is built, and its entry goes to READY (R137). -/
def State.reply (s : State) (r : Response) : State :=
  s.setBuffer (replaceFirst (·.isExecuting)
    (fun e => { e with state := .ready (replyFrame e.code e.tag r) }) s.link.buffer)

/-- The Request Handler holds no request any more, and the reply it built is dropped (R130). -/
def State.dropHand (s : State) : State := s.setLink { s.link with inHand := none }

/-- One request from take to reply (R136, R137). When the request the Request Handler takes next is one of those
`mine` names, the generic checks are made in their order, `parse` being check 4, and a request that passes is handed
to its owner, `act`. DEDUCED: the whole of it is one step. A request that a link reset found in hand has passed checks 1
to 3: it completes its effect, and its reply is dropped (R130). When the request is not one of those `mine` names, this
step does not arise and nothing changes (log entries 5 and 9). -/
def State.serve {α : Type} (s : State) (mine : RequestEntry → Bool) (parse : List Byte → Option α)
    (act : State → α → State × Response) : State :=
  match s.link.inHand with
  | some r =>
    if mine r then
      match parse r.payload with
      | none => s.dropHand
      | some a => (act s.dropHand a).1
    else s
  | none =>
    match s.nextRequest with
    | none => s
    | some r =>
      if mine r then
        match genericRefusal s.session.state r with
        | some st => s.takeRequest.reply (.refuse st)
        | none =>
          match parse r.payload with
          | none => s.takeRequest.reply (.refuse .badValue)
          | some a => (act s.takeRequest a).1.reply (act s.takeRequest a).2
      else s

/-- A request by its code. -/
def codeIs (code : Byte) (r : RequestEntry) : Bool := r.code == code

/-! ## Resets -/

/-- The whole part in the state of external reset at the given link rate, the queue of waiting commands and the number of
meetings kept (R169). -/
def State.externalReset (s : State) (rate : LinkRate) : State :=
  { State.reset with link := LinkController.reset rate, meetings := s.meetings, pending := s.pending }

/-- The reset that RESET PART decides: the whole part takes the state of external reset, with cause REQUEST. The link
rate is kept (R140), the divider runs on (R1), and the input pins stay as they are. DEDUCED (log entry 16). -/
def State.partReset (s : State) : State :=
  { State.reset with
    link := { LinkController.reset s.link.rate with breakHeld := s.link.breakHeld }
    session := Session.reset .request
    pins := s.pins
    instant := s.instant
    meetings := s.meetings
    pending := s.pending }

/-- The part while RSTn is low: inert, with all work and all reports abandoned and nothing stored (R169, R170).
DESIGN CHOICE for what is held meanwhile (log entry 7). -/
def State.inert (s : State) : State :=
  { State.reset with
    link := LinkController.reset s.link.rate
    session := { Session.reset .external with reports := [], nextSequence := 1 }
    pins := ⟨true, 0, 0⟩
    meetings := s.meetings
    pending := s.pending }

/-- The link reset of a break, in the order of R129, with the request that stays in hand, if any (R130). DESIGN CHOICE:
the transmitter is free at once (log entry 10). -/
def State.linkReset (s : State) (hand : Option RequestEntry) : State :=
  (s.setLink { s.link with
    transmitter := .free, openChoice := true, receiver := .hunting, buffer := [], shortReply := none
    replyCache := none, inHand := hand }).leaveSession .closed .linkReset

/-- A meeting of two events has had its order from the free value, and the next meeting has the next (log entry 20). -/
def State.meet (s : State) : State := { s with meetings := s.meetings + 1 }

/-- While RSTn is low the part is inert: a step changes nothing (R169). -/
def State.live (s : State) (f : State → State) : State := if s.pins.resetLow then s else f s

end Sys2Proof.Machine
end

