-- ==== Sys2Proof/Machine/Corrections.lean ====
section
/-! DEFINITION. The four correction requests (Chapter 7). -/

namespace Sys2Proof.Machine

/-- Mark the run in a slot corrected (R65). -/
def State.markCorrected (s : State) (i : Slot) : State := s.setRun i ((s.run i).map fun r => { r with corrected := true })

/-! ## SWAP RUNS -/

/-- Two slots exchange the places they hold in a queue (R110). -/
def exchange (a b : Slot) (q : List Slot) : List Slot :=
  q.map fun i => if i = a then b else if i = b then a else i

/-- SWAP RUNS, with its four checks in their order (R109, R110). -/
def State.swapRuns (s : State) (a : Nat × Word × Word) : State × Response :=
  match s.tracker.course with
  | none => (s, .refuse .noCourse)
  | some c =>
    if c.steps.length ≤ a.1 then (s, .refuse .badValue)
    else if a.2.1 = a.2.2 then (s, .refuse .badValue)
    else
      match s.findRun a.2.1, s.findRun a.2.2 with
      | some (i, _), some (j, _) =>
        if i ∈ s.queue a.1 ∧ j ∈ s.queue a.1 then
          (((s.setQueues (s.tracker.queues.modify a.1 (exchange i j))).markCorrected i).markCorrected j, .ok)
        else (s, .refuse .notFound)
      | some _, none => (s, .refuse .notFound)
      | none, _ => (s, .refuse .notFound)

/-! ## ASSIGN CROSSING -/

/-- The oldest entry of the Unassigned List with a crossing id (R104). -/
def State.entryWithId (s : State) (id : Tick) : Option UnassignedEntry :=
  s.tracker.unassigned.find? fun e => e.crossing.id == id

/-- The oldest entry with a crossing id leaves; the entries behind it keep their order (R104). -/
def State.removeEntry (s : State) (id : Tick) : State :=
  s.setUnassigned (s.tracker.unassigned.eraseP fun e => e.crossing.id == id)

/-- The start mode of the current course. -/
def State.startMode (s : State) : Option StartMode := s.tracker.course.map (·.mode)

/-- The first of checks 3 to 6 of R112 that fails for a run and the crossing of an entry. -/
def State.assignRefusal (s : State) (r : Run) (c : Crossing) : Option Status :=
  if r.state ≠ .onCourse ∧ ¬(r.state = .staged ∧ s.startMode = some .gate) then some .wrongState
  else if s.tracker.course.bind (·.gateOf r.awaitedStep) ≠ some c.gate then some .badValue
  else if r.state = .onCourse ∧ c.time < r.lastTime.getD 0 then some .outOfOrder
  else if r.state = .onCourse ∧ r.deadline.any (fun d => d < c.time) = true then some .deadlinePassed
  else none

/-- ASSIGN CROSSING, with its six checks in their order (R112), the advance (R113), and after a start the examination of the
deadlines (R114, R100). DESIGN CHOICE: the examination ends every run that is due and not only the run started (log
entry 21). -/
def State.assignCrossing (s : State) (a : Tick × Word) : State × Response :=
  match s.entryWithId a.1 with
  | none => (s, .refuse .notFound)
  | some e =>
    match s.findRun a.2 with
    | none => (s, .refuse .notFound)
    | some (i, r) =>
      match s.assignRefusal r e.crossing with
      | some st => (s, .refuse st)
      | none =>
        let s' := ((s.removeEntry a.1).advance i e.crossing true).markCorrected i
        (if r.state = .staged then s'.examineDeadlines else s', .ok [byteOf r.awaitedStep])

/-! ## VOID SPLIT -/

/-- The first of checks 2 to 4 of R116 that fails for a run. -/
def State.voidRefusal (s : State) (r : Run) : Option Status :=
  match r.state with
  | .staged | .notFinished | .withdrawn => some .wrongState
  | .onCourse => none
  | .finished =>
    if s.tracker.course.map (·.number) ≠ some r.courseNumber then some .wrongState
    else if r.deadline.any (fun d => d ≤ s.clock.count) = true then some .deadlinePassed
    else none

/-- The record after the void of its last split, at step `j` (R117, R118, R119). -/
def Run.voided (r : Run) (j : Nat) : Run :=
  { r with
    splits := r.splits.dropLast
    state := if j = 0 then .staged else .onCourse
    deadline := if j = 0 then none else r.deadline
    endReason := none
    corrected := true }

/-- The void of the split `sp` at step `j` of the run in slot `i`: the run goes to the head of that step's queue, and
the crossing, if the split has one, is filed VOIDED. No report but those of the filing is queued (R117): a reopened run
does not expire at the void (R119). DEDUCED: nor does another run that is due end in this event, though R100 has both its
conditions examined where a run returns to ON_COURSE (log entry 21). -/
def State.voidLast (s : State) (i : Slot) (r : Run) (j : Nat) (sp : Split) : State :=
  let s' := ((s.dequeue i).joinHead j i).setRun i (some (r.voided j))
  sp.crossing?.elim s' fun c => s'.fileCrossing c .voided

/-- VOID SPLIT, with its checks in their order (R116, R117). A run that is ON_COURSE or FINISHED always holds a split
(R66); DESIGN CHOICE: one that held none would be refused as not started (log entry 18). -/
def State.voidSplit (s : State) (n : Word) : State × Response :=
  match s.findRun n with
  | none => (s, .refuse .notFound)
  | some (i, r) =>
    match s.voidRefusal r, r.splits.getLast? with
    | some st, _ => (s, .refuse st)
    | none, none => (s, .refuse .wrongState)
    | none, some sp => (s.voidLast i r (r.splits.length - 1) sp, .ok [byteOf (r.splits.length - 1)])

/-! ## DISCARD CROSSING -/

/-- DISCARD CROSSING (R121). -/
def State.discardCrossing (s : State) (id : Tick) : State × Response :=
  match s.entryWithId id with
  | none => (s, .refuse .notFound)
  | some _ => (s.removeEntry id, .ok)

def execSwapRuns (s : State) : Host.Outcome State Fault Refusal :=
  .next (s.live (·.serve (codeIs 0x32) parseSwapRuns State.swapRuns))
def execAssignCrossing (s : State) : Host.Outcome State Fault Refusal :=
  .next (s.live (·.serve (codeIs 0x33) parseAssignCrossing State.assignCrossing))
def execVoidSplit (s : State) : Host.Outcome State Fault Refusal :=
  .next (s.live (·.serve (codeIs 0x34) parseRun State.voidSplit))
def execDiscardCrossing (s : State) : Host.Outcome State Fault Refusal :=
  .next (s.live (·.serve (codeIs 0x35) parseDiscardCrossing State.discardCrossing))

end Sys2Proof.Machine
end

