-- ==== Sys2Proof/Machine/Runs.lean ====
section
/-! DEFINITION. The course (Chapter 4) and run requests (Chapters 5 and 6). -/

namespace Sys2Proof.Machine

/-! ## The course -/

/-- SET COURSE, with its two checks, and the installation (R53, R54). -/
def State.setCourse (s : State) (c : Course) : State × Response :=
  if s.anyRun (fun r => r.state.active) then (s, .refuse .courseInUse)
  else if s.anyRun (fun r => r.courseNumber == c.number) ∧ s.tracker.course ≠ some c then
    (s, .refuse .courseInUse)
  else
    ({ s with tracker := { s.tracker with course := some c, queues := List.replicate c.steps.length [] } }, .ok)

/-- GET COURSE (R56). -/
def State.getCourse (s : State) (_ : Unit) : State × Response :=
  match s.tracker.course with
  | none => (s, .refuse .noCourse)
  | some c => (s, .ok (coursePayload c))

def execSetCourse (s : State) : Host.Outcome State Fault Refusal :=
  .next (s.live (·.serve (codeIs 0x20) parseSetCourse State.setCourse))
def execGetCourse (s : State) : Host.Outcome State Fault Refusal :=
  .next (s.live (·.serve (codeIs 0x21) parseNothing State.getCourse))

/-! ## Staging, withdrawing, releasing -/

/-- The record of a run staged on a course (R67). -/
def Run.stagedOn (c : Course) (n : Word) : Run where
  number       := n
  state        := .staged
  courseNumber := c.number
  stepCount    := c.steps.length
  splits       := []
  deadline     := none
  endReason    := none
  corrected    := false

/-- STAGE RUN, with its three checks in their order (R67). -/
def State.stageRun (s : State) (n : Word) : State × Response :=
  match s.tracker.course with
  | none => (s, .refuse .noCourse)
  | some c =>
    if (s.findRun n).isSome then (s, .refuse .duplicate)
    else
      match s.freeSlot with
      | none => (s, .refuse .tableFull)
      | some i => ((s.setRun i (some (Run.stagedOn c n))).joinTail 0 i, .ok [byteOf i])

/-- WITHDRAW RUN (R76). -/
def State.withdrawRun (s : State) (n : Word) : State × Response :=
  match s.findRun n with
  | none => (s, .refuse .notFound)
  | some (i, r) =>
    if r.state.active then
      (((s.dequeue i).setRun i (some { r with state := .withdrawn, endReason := some .withdrawn })).report
        (.runEnded r.number .withdrawn none), .ok)
    else (s, .refuse .wrongState)

/-- RELEASE RUN (R78). -/
def State.releaseRun (s : State) (n : Word) : State × Response :=
  match s.findRun n with
  | none => (s, .refuse .notFound)
  | some (i, r) => if r.state.active then (s, .refuse .wrongState) else (s.setRun i none, .ok)

def execStageRun (s : State) : Host.Outcome State Fault Refusal :=
  .next (s.live (·.serve (codeIs 0x28) parseRun State.stageRun))
def execWithdrawRun (s : State) : Host.Outcome State Fault Refusal :=
  .next (s.live (·.serve (codeIs 0x29) parseRun State.withdrawRun))
def execReleaseRun (s : State) : Host.Outcome State Fault Refusal :=
  .next (s.live (·.serve (codeIs 0x2C) parseRun State.releaseRun))

/-! ## Group starts -/

/-- START GROUP, with its four checks in their order (R98). -/
def State.startGroup (s : State) (time : Option Tick) : State × Response :=
  match s.tracker.course with
  | none => (s, .refuse .wrongState)
  | some c =>
    if c.mode = .gate then (s, .refuse .wrongState)
    else if s.clock.state.counting = false then (s, .refuse .wrongState)
    else if s.queue 0 = [] then (s, .refuse .wrongState)
    else if s.clock.count < time.getD s.clock.count then (s, .refuse .badValue)
    else (s.groupStart (time.getD s.clock.count),
      .ok (bytes32 (time.getD s.clock.count) ++ [byteOf (s.queue 0).length]))

def execStartGroup (s : State) : Host.Outcome State Fault Refusal :=
  .next (s.live (·.serve (codeIs 0x2A) parseStartGroup State.startGroup))

/-! ## Reading runs -/

/-- READ RUN (R79). -/
def State.readRun (s : State) (n : Word) : State × Response :=
  match s.findRun n with
  | none => (s, .refuse .notFound)
  | some (i, r) => (s, .ok (runPayload i r))

/-- LIST RUNS (R81). -/
def State.listRuns (s : State) (_ : Unit) : State × Response := (s, .ok (listPayload s))

def execReadRun (s : State) : Host.Outcome State Fault Refusal :=
  .next (s.live (·.serve (codeIs 0x2B) parseRun State.readRun))
def execListRuns (s : State) : Host.Outcome State Fault Refusal :=
  .next (s.live (·.serve (codeIs 0x2D) parseNothing State.listRuns))

end Sys2Proof.Machine
end

