-- ==== Sys2Proof/Machine/Assignment.lean ====
section
/-! DEFINITION. Assignment (Chapter 6): the take of a crossing, the deadline expiry, the assignment hold, and the
requests that read the queues and the Unassigned List; and MANUAL CROSSING (Chapter 3). -/

namespace Sys2Proof.Machine

/-! ## The take -/

/-- The candidate steps of a crossing from gate `g`, ascending: the steps whose gate is `g` and whose queue is not
empty (R91). -/
def State.candidates (s : State) (course : Course) (g : Gate) : List Nat :=
  (List.range course.steps.length).filter fun k => course.gateOf k == some g && !(s.queue k).isEmpty

/-- At one candidate step, the heads whose deadline is earlier than `t` end over time, one after another (R92). -/
def State.endOverdueHeads (t : Tick) (s : State) (k : Nat) : State :=
  ((s.queue k).takeWhile (s.overdue t)).foldl State.endOverTime s

/-- A head that remains at a candidate step: the step, its slot, and its last split time, 0 for a run with no split
(R93, R95). -/
structure Head where
  step : Nat
  slot : Slot
  last : Tick
  deriving DecidableEq, Repr

/-- The heads that remain at the candidate steps, in ascending order of step (R93). -/
def State.heads (s : State) (ks : List Nat) : List Head :=
  ks.filterMap fun k => (s.queue k).head?.map fun i => ⟨k, i, ((s.run i).bind (·.lastTime)).getD 0⟩

/-- Whether a head is eligible for a crossing timed `t`: the start head always, the head of step k when `t` is at or
after its last split time plus the step's minimum interval, the sum formed without wrapping (R93). -/
def Head.eligible (course : Course) (t : Tick) (h : Head) : Bool :=
  h.step == 0 || decide (h.last.toNat + course.intervalTicks h.step ≤ t.toNat)

/-- The better of two ON_COURSE heads, the second at the higher step: the earlier last split time wins, and with equal
times the higher step (R95). -/
def Head.better (a b : Head) : Head := if b.last ≤ a.last then b else a

/-- The winner among the eligible heads, given in ascending order of step: an ON_COURSE head before the head of the
start queue (R95). -/
def chooseHead (eligible : List Head) : Option Head :=
  match eligible.filter (fun h => h.step != 0) with
  | h :: hs => some (hs.foldl Head.better h)
  | [] => eligible.head?

/-- What becomes of a taken crossing: it is given to the winner, or filed with its reason (R91 to R96). -/
def State.place (s : State) (c : Crossing) : State :=
  match s.tracker.course with
  | none => s.fileCrossing c .noStep
  | some course =>
    if course.usesGate c.gate then
      let ks := s.candidates course c.gate
      let s' := ks.foldl (State.endOverdueHeads c.time) s
      match chooseHead ((s'.heads ks).filter (Head.eligible course c.time)) with
      | some h => s'.advance h.slot c false
      | none => s'.fileCrossing c (if s'.heads ks = [] then .noRun else .tooSoon)
    else s.fileCrossing c .noStep

/-- TAKE: in TAKING the head crossing leaves the Crossing Queue (R42), is placed, and the deadlines are examined at
the end of the take (R96, R100). -/
def State.take (s : State) : State :=
  match s.tracker.assignment, s.crossings.records with
  | .taking, c :: rest =>
    (({ s with crossings := { s.crossings with records := rest } }).place c).examineDeadlines
  | .taking, [] => s
  | .held, _ => s

def execTake (s : State) : Host.Outcome State Fault Refusal := .next (s.live State.take)

/-- DEADLINE_EXPIRY: the Course Tracker's examination of the deadlines (R100). -/
def execDeadlineExpiry (s : State) : Host.Outcome State Fault Refusal := .next (s.live State.examineDeadlines)

/-! ## The assignment state -/

/-- HOLD ASSIGNMENT: HELD in an OPEN session, refused NOT_OPEN otherwise (R87). -/
def State.holdAssignment (s : State) (_ : Unit) : State × Response :=
  if s.session.state = .opened then
    ({ s with tracker := { s.tracker with assignment := .held } }, .ok)
  else (s, .refuse .notOpen)

/-- RELEASE ASSIGNMENT (R88). -/
def State.releaseAssignment (s : State) (_ : Unit) : State × Response :=
  ({ s with tracker := { s.tracker with assignment := .taking } }, .ok)

def execHoldAssignment (s : State) : Host.Outcome State Fault Refusal :=
  .next (s.live (·.serve (codeIs 0x30) parseNothing State.holdAssignment))
def execReleaseAssignment (s : State) : Host.Outcome State Fault Refusal :=
  .next (s.live (·.serve (codeIs 0x31) parseNothing State.releaseAssignment))

/-! ## Reading -/

/-- READ QUEUE (R105). -/
def State.readQueue (s : State) (k : Nat) : State × Response :=
  match s.tracker.course with
  | none => (s, .refuse .noCourse)
  | some c => if k < c.steps.length then (s, .ok (queuePayload s k)) else (s, .refuse .badValue)

/-- READ UNASSIGNED (R106). -/
def State.readUnassigned (s : State) (_ : Unit) : State × Response :=
  (s, .ok (unassignedPayload s.tracker.unassigned))

def execReadQueue (s : State) : Host.Outcome State Fault Refusal :=
  .next (s.live (·.serve (codeIs 0x36) parseReadQueue State.readQueue))
def execReadUnassigned (s : State) : Host.Outcome State Fault Refusal :=
  .next (s.live (·.serve (codeIs 0x37) parseNothing State.readUnassigned))

/-! ## Crossings by hand -/

/-- MANUAL CROSSING, with its three checks in their order (R39, R40). -/
def State.manualCrossing (s : State) (a : Gate × Tick) : State × Response :=
  match s.clock.state with
  | .idle | .armed _ => (s, .refuse .wrongState)
  | .running | .halting _ | .halted =>
    if s.clock.count < a.2 then (s, .refuse .badValue)
    else if Config.crossingCapacity ≤ s.crossings.records.length then (s, .refuse .queueFull)
    else (s.appendCrossing a.1 a.2 .manual, .ok (bytes32 s.crossings.nextId))

def execManualCrossing (s : State) : Host.Outcome State Fault Refusal :=
  .next (s.live (·.serve (codeIs 0x38) parseManualCrossing State.manualCrossing))

end Sys2Proof.Machine
end

