-- ==== Sys2Proof/Machine/Clock.lean ====
section
/-! DEFINITION. The steps and requests of the Race Clock (Chapter 1). -/

namespace Sys2Proof.Machine

/-- HALT_END: the count has reached a halt target below the limit (R11). -/
def State.haltEnd (s : State) : State :=
  match s.clock.state with
  | .halting target =>
    if s.clock.count = target ∧ target ≠ Config.countLimit then s.changeClock .halted target .boundary else s
  | .idle | .armed _ | .running | .halted => s

/-- CLOCK_LIMIT: the count has reached 4,294,967,295 in RUNNING or HALTING (R13). -/
def State.clockLimit (s : State) : State :=
  if s.clock.state.counting = true ∧ s.clock.count = Config.countLimit then
    s.changeClock .halted Config.countLimit .limit
  else s

def execHaltEnd (s : State) : Host.Outcome State Fault Refusal := .next (s.live State.haltEnd)
def execClockLimit (s : State) : Host.Outcome State Fault Refusal := .next (s.live State.clockLimit)

/-- ARM CLOCK (R4). -/
def State.armClock (s : State) (g : Gate) : State × Response :=
  match s.clock.state with
  | .idle =>
    if s.gateEnabled g then (s.changeClock (.armed g) s.clock.count .request, .ok) else (s, .refuse .wrongState)
  | .armed _ | .running | .halting _ | .halted => (s, .refuse .wrongState)

/-- DISARM CLOCK (R5), with the notice to the Gate Units (R24). -/
def State.disarmClock (s : State) (_ : Unit) : State × Response :=
  match s.clock.state with
  | .armed _ => ((s.staleNotice).changeClock .idle s.clock.count .request, .ok)
  | .idle | .running | .halting _ | .halted => (s, .refuse .wrongState)

/-- START CLOCK (R8). DESIGN CHOICE: a run that stands ON_COURSE and whose deadline the preset passes does not end in a
start of no group (log entry 19). -/
def State.startClock (s : State) (preset : Tick) : State × Response :=
  match s.clock.state with
  | .idle => ((s.changeClock .running preset .request).clockStartEvent preset, .ok)
  | .armed _ | .running | .halting _ | .halted => (s, .refuse .wrongState)

/-- The halt target: the smallest multiple of 100 greater than the count, or the limit if that exceeds it (R10). -/
def haltTargetFor (count : Tick) : Tick :=
  let next := Config.ticksPerHundredth * (count.toNat / Config.ticksPerHundredth + 1)
  if Config.countLimit.toNat < next then Config.countLimit else BitVec.ofNat 32 next

/-- HALT CLOCK (R10). -/
def State.haltClock (s : State) (_ : Unit) : State × Response :=
  match s.clock.state with
  | .running => (s.changeClock (.halting (haltTargetFor s.clock.count)) s.clock.count .request, .ok)
  | .halting _ | .halted => (s, .ok)
  | .idle | .armed _ => (s, .refuse .wrongState)

/-- RESUME CLOCK (R12). -/
def State.resumeClock (s : State) (_ : Unit) : State × Response :=
  match s.clock.state with
  | .halted =>
    if s.clock.count = Config.countLimit then (s, .refuse .wrongState)
    else (s.changeClock .running s.clock.count .request, .ok)
  | .halting _ => (s.changeClock .running s.clock.count .request, .ok)
  | .running => (s, .ok)
  | .idle | .armed _ => (s, .refuse .wrongState)

/-- What an accepted CLEAR CLOCK does: the count becomes 0, the Unassigned List is emptied, and from HALTED the clock
becomes IDLE with its report and its notice to the Gate Units (R14, R24). -/
def State.clear (s : State) : State × Response :=
  let reply := Response.ok [byteOf s.tracker.unassigned.length]
  let s' := s.setUnassigned []
  match s.clock.state with
  | .halted => ((s'.staleNotice).changeClock .idle 0 .request, reply)
  | .idle | .armed _ | .running | .halting _ => ({ s' with clock := ⟨.idle, 0⟩ }, reply)

/-- CLEAR CLOCK, with its three checks in their order (R14). -/
def State.clearClock (s : State) (_ : Unit) : State × Response :=
  match s.clock.state with
  | .armed _ | .running | .halting _ => (s, .refuse .wrongState)
  | .idle | .halted =>
    if s.anyRun (fun r => r.state == .onCourse) then (s, .refuse .runsActive)
    else if s.crossings.records ≠ [] then (s, .refuse .wrongState)
    else s.clear

/-- READ CLOCK (R15). -/
def State.readClock (s : State) (_ : Unit) : State × Response := (s, .ok (clockPayload s.clock))

def execArmClock (s : State) : Host.Outcome State Fault Refusal :=
  .next (s.live (·.serve (codeIs 0x18) parseArmClock State.armClock))
def execDisarmClock (s : State) : Host.Outcome State Fault Refusal :=
  .next (s.live (·.serve (codeIs 0x19) parseNothing State.disarmClock))
def execStartClock (s : State) : Host.Outcome State Fault Refusal :=
  .next (s.live (·.serve (codeIs 0x1A) parseStartClock State.startClock))
def execHaltClock (s : State) : Host.Outcome State Fault Refusal :=
  .next (s.live (·.serve (codeIs 0x1B) parseNothing State.haltClock))
def execResumeClock (s : State) : Host.Outcome State Fault Refusal :=
  .next (s.live (·.serve (codeIs 0x1C) parseNothing State.resumeClock))
def execClearClock (s : State) : Host.Outcome State Fault Refusal :=
  .next (s.live (·.serve (codeIs 0x1D) parseNothing State.clearClock))
def execReadClock (s : State) : Host.Outcome State Fault Refusal :=
  .next (s.live (·.serve (codeIs 0x1E) parseNothing State.readClock))

end Sys2Proof.Machine
end

