-- ==== Sys2Proof/Machine/Gates.lean ====
section
/-! DEFINITION. The steps of the Gate Units (Chapter 2). Each stands under the condition in which the step arises; in
any other state it does not arise, and nothing changes (log entry 5). -/

namespace Sys2Proof.Machine

/-- The gate state after an acceptance at the present instant: HOLDOFF with its end and the active-since mark at the
accepted edge; with a holdoff of 0 the gate passes straight into BLOCKED (R28). -/
def State.afterAcceptance (s : State) (g : Gate) (edge : Instant) : GatePhase :=
  if (s.gate g).config.holdoff = 0 then .blocked edge
  else .holdoff (s.instant + Config.ticksPerHundredth * (s.gate g).config.holdoff.toNat) edge

/-- An ignored acceptance: the ignored count increments, and nothing else is made (R26). -/
def State.ignoreAcceptance (s : State) (g : Gate) : State :=
  s.setCounters g { (s.gate g).counters with ignored := (s.gate g).counters.ignored.saturatingSucc }

/-- The retroactive start: the count becomes the trigger gate's qualify width, the clock runs, CLOCK STATE (RUNNING,
TRIGGER) is queued, and the clock-start event is given with start count 0 (R6, R9). -/
def State.triggeredStart (s : State) (g : Gate) : State :=
  (s.changeClock .running ((s.gate g).config.qualifyWidth.setWidth 32) .trigger).clockStartEvent 0

/-- How the Race Clock settles an acceptance, by its state and the stale mark (R26). -/
def State.settleAcceptance (s : State) (g : Gate) (edgeTime : Tick) (stale : Bool) : State :=
  if stale then s.ignoreAcceptance g
  else
    match s.clock.state with
    | .running | .halting _ => s.offerCrossing g edgeTime
    | .armed trigger => if trigger = g then (s.triggeredStart g).offerCrossing g 0 else s.ignoreAcceptance g
    | .idle | .halted => s.ignoreAcceptance g

/-- LEADING_EDGE: an active sample at an IDLE gate latches the edge time, with the stale mark set if the clock is IDLE
(R23). -/
def State.leadingEdge (s : State) (g : Gate) : State :=
  match (s.gate g).phase with
  | .idle =>
    if s.sampleActive g then
      s.setPhase g (.qualifying s.clock.count s.instant (decide (s.clock.state = .idle)))
    else s
  | .disabled _ | .qualifying .. | .holdoff .. | .blocked _ => s

/-- SHORT_PULSE: an inactive sample after the edge, before the qualify width has passed (R25). -/
def State.shortPulse (s : State) (g : Gate) : State :=
  match (s.gate g).phase with
  | .qualifying _ edge _ =>
    if s.sampleActive g = false ∧ edge < s.instant then
      (s.setPhase g .idle).setCounters g
        { (s.gate g).counters with short := (s.gate g).counters.short.saturatingSucc }
    else s
  | .disabled _ | .idle | .holdoff .. | .blocked _ => s

/-- ACCEPTANCE: the input is still active one qualify width after the edge (R25); the gate enters HOLDOFF and the Race
Clock settles the acceptance (R26). -/
def State.acceptance (s : State) (g : Gate) : State :=
  match (s.gate g).phase with
  | .qualifying edgeTime edge stale =>
    if s.sampleActive g = true ∧ edge + (s.gate g).config.qualifyWidth.toNat ≤ s.instant then
      (s.setPhase g (s.afterAcceptance g edge)).settleAcceptance g edgeTime stale
    else s
  | .disabled _ | .idle | .holdoff .. | .blocked _ => s

/-- EDGE_IN_HOLDOFF: a leading edge in HOLDOFF moves the active-since mark to its instant (R28, R30). -/
def State.edgeInHoldoff (s : State) (g : Gate) : State :=
  match (s.gate g).phase with
  | .holdoff till _ => if s.edgeSampled g then s.setPhase g (.holdoff till s.instant) else s
  | .disabled _ | .idle | .qualifying .. | .blocked _ => s

/-- HOLDOFF_END: with the sample inactive the gate goes to IDLE; with it active to BLOCKED, its mark set to the holdoff
end if that sample is a leading edge (R28). -/
def State.holdoffEnd (s : State) (g : Gate) : State :=
  match (s.gate g).phase with
  | .holdoff till mark =>
    if till ≤ s.instant then
      if s.sampleActive g then s.setPhase g (.blocked (if s.priorActive g then mark else s.instant))
      else s.enterGateIdle g
    else s
  | .disabled _ | .idle | .qualifying .. | .blocked _ => s

/-- BLOCKED_INPUT_INACTIVE: the first inactive sample in BLOCKED returns the gate to IDLE (R29). -/
def State.blockedInputInactive (s : State) (g : Gate) : State :=
  match (s.gate g).phase with
  | .blocked _ => if s.sampleActive g then s else s.enterGateIdle g
  | .disabled _ | .idle | .qualifying .. | .holdoff .. => s

/-- The active-since mark, present in HOLDOFF and BLOCKED (R21). -/
def GatePhase.activeSince : GatePhase → Option Instant
  | .holdoff _ mark | .blocked mark => some mark
  | .disabled _ | .idle | .qualifying .. => none

/-- GATE_ALARM_BLOCKED: the input has been active at every sample for the block alarm time since the mark, and the
marker is clear (R31). A leading edge at this very instant is not active since an older mark. -/
def State.gateAlarmBlocked (s : State) (g : Gate) : State :=
  match (s.gate g).phase.activeSince with
  | some mark =>
    if s.sampleActive g = true ∧ (s.priorActive g = true ∨ mark = s.instant)
        ∧ mark + Config.ticksPerSecond * (s.gate g).config.blockAlarmTime.toNat ≤ s.instant
        ∧ (s.gate g).alarmRaised = false then
      (s.setGate g { s.gate g with alarmRaised := true }).report (.gateAlarm g .blocked)
    else s
  | none => s

/-- GATE_ENABLE_SAMPLE: at the first tick instant after the enabling SET GATE the gate reads its input and enters IDLE
or BLOCKED (R19). -/
def State.gateEnableSample (s : State) (g : Gate) : State :=
  match (s.gate g).phase with
  | .disabled (some t) =>
    if t < s.instant then
      if s.sampleActive g then s.setPhase g (.blocked s.instant) else s.enterGateIdle g
    else s
  | .disabled none | .idle | .qualifying .. | .holdoff .. | .blocked _ => s

/-! ## The commands -/

def execLeadingEdge (g : Gate) (s : State) : Host.Outcome State Fault Refusal := .next (s.live (·.leadingEdge g))
def execShortPulse (g : Gate) (s : State) : Host.Outcome State Fault Refusal := .next (s.live (·.shortPulse g))
def execAcceptance (g : Gate) (s : State) : Host.Outcome State Fault Refusal := .next (s.live (·.acceptance g))
def execEdgeInHoldoff (g : Gate) (s : State) : Host.Outcome State Fault Refusal :=
  .next (s.live (·.edgeInHoldoff g))
def execHoldoffEnd (g : Gate) (s : State) : Host.Outcome State Fault Refusal := .next (s.live (·.holdoffEnd g))
def execBlockedInputInactive (g : Gate) (s : State) : Host.Outcome State Fault Refusal :=
  .next (s.live (·.blockedInputInactive g))
def execGateAlarmBlocked (g : Gate) (s : State) : Host.Outcome State Fault Refusal :=
  .next (s.live (·.gateAlarmBlocked g))
def execGateEnableSample (g : Gate) (s : State) : Host.Outcome State Fault Refusal :=
  .next (s.live (·.gateEnableSample g))

/-- SET GATE with enabled no, at its gate: the six fields are replaced, the pulse and the holdoff are dropped, the
gate is DISABLED, and the alarm-raised marker is cleared without a report (R18; log entry 15). -/
def State.disableGate (s : State) (a : Gate × GateConfig) : State × Response :=
  (s.setGate a.1 { s.gate a.1 with config := a.2, phase := .disabled none, alarmRaised := false }, .ok)

/-- SET GATE with enabled yes, at its gate: a DISABLED gate takes the fields and awaits the next tick instant; an
enabled gate answers OK to its own fields and refuses any other (R19). DESIGN CHOICE: where a gate's first sample is due at
this instant and not yet taken, the wait starts anew, and the gate first reads its input at the tick instant after this
one (log entry 22). -/
def State.enableGate (s : State) (a : Gate × GateConfig) : State × Response :=
  match (s.gate a.1).phase with
  | .disabled _ =>
    (s.setGate a.1 { s.gate a.1 with config := a.2, phase := .disabled (some s.instant) }, .ok)
  | .idle | .qualifying .. | .holdoff .. | .blocked _ =>
    if a.2 = (s.gate a.1).config then (s, .ok) else (s, .refuse .wrongState)

/-- GET GATE (R20). -/
def State.readGate (s : State) (a : Gate × Bool) : State × Response :=
  (if a.2 then s.setCounters a.1 ⟨0, 0, 0, 0⟩ else s, .ok (gatePayload (s.gate a.1)))

/-- The enabled field of a SET GATE payload. -/
def enabledField (p : List Byte) : Option Byte := p[1]?

/-- SET_GATE_DISABLE takes a SET GATE whose enabled field is not yes. DESIGN CHOICE for a field that is neither yes nor
no (log entry 8). -/
def execSetGateDisable (s : State) : Host.Outcome State Fault Refusal :=
  .next (s.live (·.serve (fun r => codeIs 0x10 r && enabledField r.payload != some 1) parseSetGate State.disableGate))

/-- SET_GATE_ENABLE takes a SET GATE whose enabled field is yes. -/
def execSetGateEnable (s : State) : Host.Outcome State Fault Refusal :=
  .next (s.live (·.serve (fun r => codeIs 0x10 r && enabledField r.payload == some 1) parseSetGate State.enableGate))

def execGetGate (s : State) : Host.Outcome State Fault Refusal :=
  .next (s.live (·.serve (codeIs 0x11) parseGetGate State.readGate))

end Sys2Proof.Machine
end

