-- ==== Sys2Proof/Machine/Link.lean ====
section
/-! DEFINITION. The steps of the Link Controller (Chapter 8): the receiver, the break and its link reset, and the
transmitter; and the external reset (Chapter 11). What RXD does on the line comes as commands (log entry 11), and the ends
of frames come when they are commanded (log entry 14). -/

namespace Sys2Proof.Machine

/-! ## The receiver -/

/-- A partial frame is discarded without re-examination, and counted (R126, R127). -/
def State.dropPartial (s : State) : State :=
  match s.link.receiver with
  | .hunting => s
  | .length | .body .. | .lapsed => s.countBadFrame.setReceiver .hunting

/-- SYNC_BYTE_FOUND: 0xD3 in HUNTING (R124). A character after LAPSED shows that no break began within the 10 ms: the gap
has ended the partial frame before it (R126). -/
def State.syncByteFound (s : State) : State :=
  match s.link.receiver with
  | .hunting | .lapsed => if s.link.breakHeld then s else s.dropPartial.characterSeen.setReceiver .length
  | .length | .body .. => s

/-- LENGTH_ACCEPTED: a length byte from 4 to 244 (R124). -/
def State.lengthAccepted (s : State) (len : Byte) : State :=
  match s.link.receiver with
  | .length =>
    if s.link.breakHeld = false ∧ Config.minLength ≤ len.toNat ∧ len.toNat ≤ Config.maxLength then
      s.characterSeen.setReceiver (.body len [])
    else s
  | .hunting | .body .. | .lapsed => s

/-- LENGTH_OUT_OF_RANGE: any other length byte is counted bad and examined itself as the first character of the new
hunt (R124, R127). -/
def State.lengthOutOfRange (s : State) (len : Byte) : State :=
  match s.link.receiver with
  | .length =>
    if s.link.breakHeld = false ∧ ¬(Config.minLength ≤ len.toNat ∧ len.toNat ≤ Config.maxLength) then
      s.characterSeen.countBadFrame.receive 1 [len]
    else s
  | .hunting | .body .. | .lapsed => s

/-- BODY_CHARACTER: a character of a frame that is not its last (R124). -/
def State.bodyCharacter (s : State) (c : Byte) : State :=
  match s.link.receiver with
  | .body len cs =>
    if s.link.breakHeld = false ∧ cs.length + 1 < len.toNat + 2 then
      s.characterSeen.setReceiver (.body len (cs ++ [c]))
    else s
  | .hunting | .length | .lapsed => s

/-- FRAME_COMPLETE: the last character of a frame; the whole frame is judged from its sync byte on (R124, R125). -/
def State.frameComplete (s : State) (c : Byte) : State :=
  match s.link.receiver with
  | .body len cs =>
    if s.link.breakHeld = false ∧ cs.length + 1 = len.toNat + 2 then
      s.characterSeen.receive (cs.length + 4) (Config.sync :: len :: cs ++ [c])
    else s
  | .hunting | .length | .lapsed => s

/-- INTER_CHARACTER_GAP: 10 ms without a new character in LENGTH or BODY (R126; log entry 13). -/
def State.interCharacterGap (s : State) : State :=
  if s.link.lastCharacter + Config.characterGap ≤ s.instant then s.dropPartial else s

/-- FRAMING_ERROR: passed over in HUNTING; a partial frame is discarded (R126). -/
def State.framingError (s : State) : State := if s.link.breakHeld then s else s.dropPartial

/-- A break is detected, and one link reset takes place however long RXD stays low (R128, R129). A RESET PART that is
taken before it, `decided`, completes its effect in the event of the link reset (R140). -/
def State.breakWith (s : State) (hand : Option RequestEntry) (decided : Bool) : State :=
  let s' := (s.setLink { s.link with breakHeld := true }).linkReset hand
  if decided then s'.partReset else s'

/-- A request taken just before a link reset, as it is in hand after it, when it passes generic checks 1 to 3; its effect
completes in its own step, which follows (R130, R136). -/
def State.handOf (s : State) (r : RequestEntry) : Option RequestEntry :=
  if genericRefusal s.session.state r = none then some { r with state := .executing } else none

/-- BREAK. Where a request is in front, it may have been taken before the link reset, and is then in hand, or not, and is
then dropped with the buffer (R129, R130): the free value says which (log entry 20). -/
def State.lineBreak (s : State) : State :=
  if s.link.breakHeld then s
  else
    match s.nextRequest with
    | none => s.breakWith s.link.inHand s.resetDecided
    | some r => if Config.meeting s.meetings then s.meet.breakWith (s.handOf r) r.isPartReset else s.meet.breakWith none false

/-- BREAK_END: the receiver is HUNTING for the next character (R128). -/
def State.breakEnd (s : State) : State :=
  if s.link.breakHeld then s.setLink { s.link with breakHeld := false, receiver := .hunting } else s

def execSyncByteFound (s : State) : Host.Outcome State Fault Refusal := .next (s.live State.syncByteFound)
def execLengthAccepted (len : Byte) (s : State) : Host.Outcome State Fault Refusal :=
  .next (s.live (·.lengthAccepted len))
def execLengthOutOfRange (len : Byte) (s : State) : Host.Outcome State Fault Refusal :=
  .next (s.live (·.lengthOutOfRange len))
def execBodyCharacter (c : Byte) (s : State) : Host.Outcome State Fault Refusal :=
  .next (s.live (·.bodyCharacter c))
def execFrameComplete (c : Byte) (s : State) : Host.Outcome State Fault Refusal :=
  .next (s.live (·.frameComplete c))
def execInterCharacterGap (s : State) : Host.Outcome State Fault Refusal := .next (s.live State.interCharacterGap)
def execFramingError (s : State) : Host.Outcome State Fault Refusal := .next (s.live State.framingError)
def execLineBreak (s : State) : Host.Outcome State Fault Refusal := .next (s.live State.lineBreak)
def execBreakEnd (s : State) : Host.Outcome State Fault Refusal := .next (s.live State.breakEnd)

/-! ## The transmitter -/

/-- The transmitter begins a frame. -/
def State.beginFrame (s : State) (t : Transmitter) : State :=
  s.setLink { s.link with transmitter := t, openChoice := false }

/-- The transmitter is free, and finds a reply present or none (R138, R139). -/
def State.freeTransmitter (s : State) : State :=
  s.setLink { s.link with transmitter := .free, openChoice := !s.link.replyPresent }

/-- The reply of the READY entry whose request arrived first (R138). -/
def State.firstReady (s : State) : Option (List Byte) := s.link.buffer.findSome? (·.readyReply)

/-- The free transmitter begins the report the Session offers, if it offers one (R138). -/
def State.startReport (s : State) : State :=
  match s.offeredReport with
  | some r => s.beginFrame (.report r.sequence (reportFrame r))
  | none => s

/-- The free transmitter begins the short reply, else the first READY reply, whose entry goes to SENDING, else the
report the Session offers (R133, R138). -/
def State.startNext (s : State) : State :=
  match s.link.shortReply with
  | some f => s.beginFrame (.shortReply f)
  | none =>
    match s.firstReady with
    | some f =>
      (s.setBuffer (replaceFirst (fun e => e.readyReply.isSome) (fun e => { e with state := .sending f })
        s.link.buffer)).beginFrame (.bufferReply f)
    | none => s.startReport

/-- A reply and a report have become present together at the free transmitter (R139). -/
def State.choiceOpen (s : State) : Bool := s.link.openChoice && s.link.replyPresent && s.offeredReport.isSome

/-- FRAME_START. The choice of R138; but of a reply and a report become present together either may be taken first (R139):
the free value says which (log entry 20). -/
def State.frameStart (s : State) : State :=
  match s.link.transmitter with
  | .free =>
    if s.choiceOpen then if Config.meeting s.meetings then s.meet.startReport else s.meet.startNext
    else s.startNext
  | .shortReply _ | .bufferReply _ | .report .. => s

/-- SHORT_REPLY_SENT: the slot becomes empty (R138). -/
def State.shortReplySent (s : State) : State :=
  match s.link.transmitter with
  | .shortReply _ => (s.setLink { s.link with shortReply := none }).freeTransmitter
  | .free | .bufferReply _ | .report .. => s

/-- BUFFER_REPLY_SENT: the entry becomes empty and the reply cache takes its tag, code and reply (R134, R138); with the
reply of the RESET PART that decided it, the part is reset (R140). -/
def State.bufferReplySent (s : State) : State :=
  match s.link.transmitter with
  | .bufferReply f =>
    match s.link.buffer.find? (·.isSending) with
    | some e =>
      if e.isPartReset then s.partReset
      else (s.setLink { s.link with
        buffer := s.link.buffer.eraseP (·.isSending)
        replyCache := some ⟨e.code, e.tag, f⟩ }).freeTransmitter
    | none => s.freeTransmitter
  | .free | .shortReply _ | .report .. => s

/-- Whether a completed report frame puts its report in flight: the report is still stored, the session is OPEN, the
window has room, and every older report is in flight (R149). -/
def Session.admits (ss : Session) (q : Word) : Bool :=
  ss.reports.any (fun r => r.sequence == q) && ss.state == .opened && decide (ss.inFlight < ss.window.toNat)
    && (ss.reports.takeWhile fun r => r.sequence ≠ q).all fun r => r.delivery == .inFlight

/-- A report becomes in flight, and the retry timer starts if it is stopped (R149, R152). -/
def Session.markInFlight (ss : Session) (now : Instant) (q : Word) : Session :=
  { ss with
    reports := ss.reports.map fun r => if r.sequence = q then { r with delivery := .inFlight } else r
    retryTimer := some (ss.retryTimer.getD (now + Config.retryPeriod)) }

/-- REPORT_SENT (R149). -/
def State.reportSent (s : State) : State :=
  match s.link.transmitter with
  | .report q _ =>
    s.freeTransmitter.setSession
      (if s.session.admits q then s.session.markInFlight s.instant q else s.session)
  | .free | .shortReply _ | .bufferReply _ => s

def execFrameStart (s : State) : Host.Outcome State Fault Refusal := .next (s.live State.frameStart)
def execShortReplySent (s : State) : Host.Outcome State Fault Refusal := .next (s.live State.shortReplySent)
def execBufferReplySent (s : State) : Host.Outcome State Fault Refusal := .next (s.live State.bufferReplySent)
def execReportSent (s : State) : Host.Outcome State Fault Refusal := .next (s.live State.reportSent)

/-! ## External reset -/

/-- The bit rate of the straps, `true` a high level (R123). -/
def rateOf (baud1 baud0 : Bool) : LinkRate :=
  match baud1, baud0 with
  | false, false => .bps115200
  | false, true => .bps230400
  | true, false => .bps460800
  | true, true => .bps921600

/-- RSTN_LOW (R170). -/
def execRstnLow (s : State) : Host.Outcome State Fault Refusal := .next s.inert

/-- EXTERNAL_RESET: the straps are sampled and the whole part starts (R169). -/
def execExternalReset (baud1 baud0 : Bool) (s : State) : Host.Outcome State Fault Refusal :=
  .next (s.externalReset (rateOf baud1 baud0))

end Sys2Proof.Machine
end

