-- ==== Sys2Proof/Machine/Sessions.lean ====
section
/-! DEFINITION. The session's timers and requests (Chapter 9), STATUS and PING, RESET PART (Chapter 8), and the request
whose code names none. -/

namespace Sys2Proof.Machine

/-! ## Timers -/

/-- The entry to SILENT (R155). -/
def State.enterSilent (s : State) : State := s.leaveSession .silent .sessionSilent

/-- Whether a timer has expired. -/
def expiredBy (now : Instant) (timer : Option Instant) : Bool := timer.any (fun e => decide (e ≤ now))

/-- RETRY_TIMER_EXPIRY: go-back, with the retry count incremented and the timer stopped; at the limit the session goes
SILENT (R153). -/
def State.retryTimerExpiry (s : State) : State :=
  if s.session.state = .opened ∧ expiredBy s.instant s.session.retryTimer = true then
    let s' := s.setSession { s.session with
      reports := recallReports s.session.reports
      retryCount := s.session.retryCount + 1
      retryTimer := none }
    if s.session.retryCount + 1 < Config.retryLimit then s' else s'.enterSilent
  else s

/-- KEEPALIVE_EXPIRY (R154). -/
def State.keepaliveExpiry (s : State) : State :=
  if s.session.state = .opened ∧ expiredBy s.instant s.session.keepaliveTimer = true then s.enterSilent else s

def execRetryTimerExpiry (s : State) : Host.Outcome State Fault Refusal := .next (s.live State.retryTimerExpiry)
def execKeepaliveExpiry (s : State) : Host.Outcome State Fault Refusal := .next (s.live State.keepaliveExpiry)

/-! ## Requests -/

/-- OPEN SESSION's reply: the oldest stored sequence, if any, and the next sequence (R142, R166). -/
def openPayload (ss : Session) : List Byte :=
  yesNo ss.reports.head?.isSome :: bytes16 ((ss.reports.head?.map (·.sequence)).getD 0) ++ bytes16 ss.nextSequence

/-- The Session after OPEN SESSION with a window, a keepalive period and DISCARD (R142). -/
def Session.openWith (ss : Session) (now : Instant) (window keepalive : Byte) (discard : Bool) : Session :=
  { ss with
    reports := if discard then [] else recallReports ss.reports
    pendingLoss := if discard then 0 else ss.pendingLoss
    window := window
    keepalive := keepalive
    retryCount := 0
    retryTimer := none
    state := .opened
    keepaliveTimer := keepaliveFrom now keepalive }

/-- OPEN SESSION (R142). -/
def State.openSession (s : State) (a : Byte × Byte × Bool) : State × Response :=
  let ss := s.session.openWith s.instant a.1 a.2.1 a.2.2
  (s.setSession ss, .ok (openPayload ss))

/-- CLOSE SESSION (R143). -/
def State.closeSession (s : State) (_ : Unit) : State × Response :=
  (s.leaveSession .closed .sessionClosed, .ok)

/-- PING (R144). -/
def State.ping (s : State) (_ : Unit) : State × Response := (s, .ok)

/-- STATUS (R145). -/
def State.status (s : State) (_ : Unit) : State × Response := (s, .ok (statusPayload s))

/-- RESET PART: its take decides the reset and builds the OK reply; the reset itself comes when that reply has been
sent (R140). -/
def State.resetPart (s : State) (_ : Unit) : State × Response := (s, .ok)

/-- A code that names no request is refused by generic check 1 before anything else is examined (R136, R165). -/
def State.noOwner (s : State) (_ : Unit) : State × Response := (s, .refuse .unknownRequest)

def execOpenSession (s : State) : Host.Outcome State Fault Refusal :=
  .next (s.live (·.serve (codeIs 0x01) parseOpenSession State.openSession))
def execCloseSession (s : State) : Host.Outcome State Fault Refusal :=
  .next (s.live (·.serve (codeIs 0x02) parseNothing State.closeSession))
def execPing (s : State) : Host.Outcome State Fault Refusal :=
  .next (s.live (·.serve (codeIs 0x03) parseNothing State.ping))
def execStatus (s : State) : Host.Outcome State Fault Refusal :=
  .next (s.live (·.serve (codeIs 0x04) parseNothing State.status))
def execResetPart (s : State) : Host.Outcome State Fault Refusal :=
  .next (s.live (·.serve (codeIs 0x05) parseNothing State.resetPart))
def execUnknownRequest (s : State) : Host.Outcome State Fault Refusal :=
  .next (s.live (·.serve (fun r => (payloadFits r.code r.payload).isNone) parseNothing State.noOwner))

end Sys2Proof.Machine
end

