-- ==== Sys2Proof/Machine/Ticks.lean ====
section
/-! DEFINITION. The tick instant (R1). Before the next tick instant comes, every step that fell due at or since the last
one has been taken (log entry 2). -/

namespace Sys2Proof.Machine

/-- The steps that may be due at one gate, in an order that the manual allows. -/
def State.settleGate (s : State) (g : Gate) : State :=
  ((((((((s.gateEnableSample g).blockedInputInactive g).edgeInHoldoff g).holdoffEnd g).shortPulse g).acceptance
    g).leadingEdge g).gateAlarmBlocked g)

/-- The gap as far as it is certain (R126; log entry 13). One instant after the 10 ms no character that began within them
is still to come, and the partial frame has lapsed; 2 ms later no break that began within them is still undecided, and
the gap has ended the frame. -/
def State.settleGap (s : State) : State :=
  match s.link.receiver with
  | .hunting => s
  | .length | .body .. =>
    if s.link.lastCharacter + Config.characterGap < s.instant then s.setReceiver .lapsed else s
  | .lapsed =>
    if s.link.lastCharacter + Config.characterGap + Config.breakTime ≤ s.instant then s.dropPartial else s

/-- Every step due before the next tick instant is taken: the clock's, each gate's, the deadline examination, the
session's timers, and the gap. A step that is not due changes nothing. DESIGN CHOICE for the order (log entry 2), and for
a deadline that a START CLOCK preset has passed: its examination is this one, of the tick instant that follows, and not
one in the start itself, though the conditions of R100 hold from then on (log entry 19). -/
def State.settle (s : State) : State :=
  (((Config.allGates.foldl State.settleGate s.clockLimit.haltEnd).examineDeadlines).retryTimerExpiry).keepaliveExpiry.settleGap

/-- The next tick instant, with the gate levels sampled at it: the count increases by one in RUNNING and HALTING
(R1, R22). A reply present at a free transmitter now has not become present together with a report that comes after
(R139; log entry 20). -/
def State.tick (s : State) (levels : Byte) : State :=
  { s with
    instant := s.instant + 1
    pins := ⟨s.pins.resetLow, levels, s.pins.levels⟩
    clock := if s.clock.state.counting then ⟨s.clock.state, s.clock.count + 1⟩ else s.clock
    link := { s.link with openChoice := s.link.transmitter == .free && !s.link.replyPresent } }

def execTickInstant (levels : Byte) (s : State) : Host.Outcome State Fault Refusal :=
  .next (s.live fun s => s.settle.tick levels)

end Sys2Proof.Machine
end

