-- ==== Sys2Proof/Machine/Dispatch.lean ====
section
/-! DEFINITION. The dispatch: one arm per command, each one call of that command's meaning. -/

namespace Sys2Proof.Machine

/-- The command's effect on everything but the queue of waiting commands. -/
def exec (i : Instr) (s : State) : Host.Outcome State Fault Refusal :=
  match i with
  | .rstnLow => Sys2Proof.Machine.execRstnLow s
  | .externalReset baud1 baud0 => Sys2Proof.Machine.execExternalReset baud1 baud0 s
  | .leadingEdge g => Sys2Proof.Machine.execLeadingEdge g s
  | .shortPulse g => Sys2Proof.Machine.execShortPulse g s
  | .acceptance g => Sys2Proof.Machine.execAcceptance g s
  | .edgeInHoldoff g => Sys2Proof.Machine.execEdgeInHoldoff g s
  | .holdoffEnd g => Sys2Proof.Machine.execHoldoffEnd g s
  | .blockedInputInactive g => Sys2Proof.Machine.execBlockedInputInactive g s
  | .gateAlarmBlocked g => Sys2Proof.Machine.execGateAlarmBlocked g s
  | .gateEnableSample g => Sys2Proof.Machine.execGateEnableSample g s
  | .haltEnd => Sys2Proof.Machine.execHaltEnd s
  | .clockLimit => Sys2Proof.Machine.execClockLimit s
  | .take => Sys2Proof.Machine.execTake s
  | .deadlineExpiry => Sys2Proof.Machine.execDeadlineExpiry s
  | .lengthOutOfRange len => Sys2Proof.Machine.execLengthOutOfRange len s
  | .frameComplete c => Sys2Proof.Machine.execFrameComplete c s
  | .interCharacterGap => Sys2Proof.Machine.execInterCharacterGap s
  | .framingError => Sys2Proof.Machine.execFramingError s
  | .lineBreak => Sys2Proof.Machine.execLineBreak s
  | .breakEnd => Sys2Proof.Machine.execBreakEnd s
  | .frameStart => Sys2Proof.Machine.execFrameStart s
  | .shortReplySent => Sys2Proof.Machine.execShortReplySent s
  | .bufferReplySent => Sys2Proof.Machine.execBufferReplySent s
  | .reportSent => Sys2Proof.Machine.execReportSent s
  | .retryTimerExpiry => Sys2Proof.Machine.execRetryTimerExpiry s
  | .keepaliveExpiry => Sys2Proof.Machine.execKeepaliveExpiry s
  | .unknownRequest => Sys2Proof.Machine.execUnknownRequest s
  | .openSession => Sys2Proof.Machine.execOpenSession s
  | .closeSession => Sys2Proof.Machine.execCloseSession s
  | .ping => Sys2Proof.Machine.execPing s
  | .status => Sys2Proof.Machine.execStatus s
  | .resetPart => Sys2Proof.Machine.execResetPart s
  | .setGateDisable => Sys2Proof.Machine.execSetGateDisable s
  | .setGateEnable => Sys2Proof.Machine.execSetGateEnable s
  | .getGate => Sys2Proof.Machine.execGetGate s
  | .armClock => Sys2Proof.Machine.execArmClock s
  | .disarmClock => Sys2Proof.Machine.execDisarmClock s
  | .startClock => Sys2Proof.Machine.execStartClock s
  | .haltClock => Sys2Proof.Machine.execHaltClock s
  | .resumeClock => Sys2Proof.Machine.execResumeClock s
  | .clearClock => Sys2Proof.Machine.execClearClock s
  | .readClock => Sys2Proof.Machine.execReadClock s
  | .setCourse => Sys2Proof.Machine.execSetCourse s
  | .getCourse => Sys2Proof.Machine.execGetCourse s
  | .stageRun => Sys2Proof.Machine.execStageRun s
  | .withdrawRun => Sys2Proof.Machine.execWithdrawRun s
  | .startGroup => Sys2Proof.Machine.execStartGroup s
  | .readRun => Sys2Proof.Machine.execReadRun s
  | .releaseRun => Sys2Proof.Machine.execReleaseRun s
  | .listRuns => Sys2Proof.Machine.execListRuns s
  | .holdAssignment => Sys2Proof.Machine.execHoldAssignment s
  | .releaseAssignment => Sys2Proof.Machine.execReleaseAssignment s
  | .swapRuns => Sys2Proof.Machine.execSwapRuns s
  | .assignCrossing => Sys2Proof.Machine.execAssignCrossing s
  | .voidSplit => Sys2Proof.Machine.execVoidSplit s
  | .discardCrossing => Sys2Proof.Machine.execDiscardCrossing s
  | .readQueue => Sys2Proof.Machine.execReadQueue s
  | .readUnassigned => Sys2Proof.Machine.execReadUnassigned s
  | .manualCrossing => Sys2Proof.Machine.execManualCrossing s
  | .tickInstant levels => Sys2Proof.Machine.execTickInstant levels s
  | .syncByteFound => Sys2Proof.Machine.execSyncByteFound s
  | .lengthAccepted len => Sys2Proof.Machine.execLengthAccepted len s
  | .bodyCharacter c => Sys2Proof.Machine.execBodyCharacter c s

end Sys2Proof.Machine
end

