-- ==== Sys2Proof/Safety.lean ====
section
/-! DEFINITION. The laws the manual states over the whole part, each a predicate of the state, in the terms the
statements use. -/

namespace Sys2Proof.Machine

/-! ## The request in front -/

/-- The Link Controller with the WAITING request that arrived first answered: its entry is READY with its reply frame
(R136, R137). -/
def LinkController.answer (l : LinkController) (r : Response) : LinkController :=
  { l with
    buffer := replaceFirst (·.isWaiting) (fun e => { e with state := .ready (replyFrame e.code e.tag r) }) l.buffer }

/-- The state with the request `r`, which a link reset left in hand, waiting alone in front of an OPEN session instead: where
it completes its effect as it would have without the link reset (R130). -/
def State.alone (s : State) (r : RequestEntry) : State :=
  { s with
    session := { s.session with state := .opened }
    link := { s.link with inHand := none, buffer := [{ r with state := .waiting }] } }

/-- RSTn is high, and the request that the Request Handler takes next has this code, tag and payload (R136). -/
abbrev State.NextIs (s : State) (code tag : Byte) (payload : List Byte) : Prop :=
  s.pins.resetLow = false ∧ s.nextRequest = some ⟨code, tag, payload, .waiting⟩

/-- The step by which the Request Handler takes a request: that of its code, SET GATE by its enabled field, and
UNKNOWN_REQUEST for a code that names none (R136, R165). -/
def RequestEntry.step (r : RequestEntry) : Instr :=
  match r.code.toNat with
  | 0x01 => .openSession | 0x02 => .closeSession | 0x03 => .ping | 0x04 => .status | 0x05 => .resetPart
  | 0x10 => if enabledField r.payload = some 1 then .setGateEnable else .setGateDisable
  | 0x11 => .getGate
  | 0x18 => .armClock | 0x19 => .disarmClock | 0x1A => .startClock | 0x1B => .haltClock | 0x1C => .resumeClock
  | 0x1D => .clearClock | 0x1E => .readClock
  | 0x20 => .setCourse | 0x21 => .getCourse
  | 0x28 => .stageRun | 0x29 => .withdrawRun | 0x2A => .startGroup | 0x2B => .readRun | 0x2C => .releaseRun
  | 0x2D => .listRuns
  | 0x30 => .holdAssignment | 0x31 => .releaseAssignment | 0x32 => .swapRuns | 0x33 => .assignCrossing
  | 0x34 => .voidSplit | 0x35 => .discardCrossing | 0x36 => .readQueue | 0x37 => .readUnassigned
  | 0x38 => .manualCrossing
  | _ => .unknownRequest

/-- The commands by which the Request Handler takes a request. -/
def isRequestStep : Instr → Bool
  | .unknownRequest | .openSession | .closeSession | .ping | .status | .resetPart | .setGateDisable
  | .setGateEnable | .getGate | .armClock | .disarmClock | .startClock | .haltClock | .resumeClock
  | .clearClock | .readClock | .setCourse | .getCourse | .stageRun | .withdrawRun | .startGroup | .readRun
  | .releaseRun | .listRuns | .holdAssignment | .releaseAssignment | .swapRuns | .assignCrossing | .voidSplit
  | .discardCrossing | .readQueue | .readUnassigned | .manualCrossing => true
  | _ => false

/-! ## Ticks, takes and starts, as the statements read them -/

/-- The steps that may be due before the next tick instant, in the order in which the model takes them: the clock's, those
of the gates 0 to 7, the deadline examination and the session's timers (log entry 2). -/
def dueSteps : List Instr :=
  [.clockLimit, .haltEnd]
  ++ [0, 1, 2, 3, 4, 5, 6, 7].flatMap (fun g : Gate =>
    [.gateEnableSample g, .blockedInputInactive g, .edgeInHoldoff g, .holdoffEnd g, .shortPulse g, .acceptance g,
      .leadingEdge g, .gateAlarmBlocked g])
  ++ [.deadlineExpiry, .retryTimerExpiry, .keepaliveExpiry]

/-- No step is due at the last tick instant. -/
abbrev State.NothingDue (s : State) : Prop :=
  (s.clock.state.counting = true → s.clock.count ≠ 0xFFFFFFFF)
  ∧ (∀ target, s.clock.state = .halting target → s.clock.count ≠ target)
  ∧ (∀ g : Gate, match (s.gate g).phase with
      | .disabled none => True
      | .disabled (some t) => s.instant ≤ t
      | .idle => s.sampleActive g = false
      | .qualifying _ e _ => s.sampleActive g = true ∧ s.instant < e + (s.gate g).config.qualifyWidth.toNat
      | .holdoff till mark => s.instant < till ∧ s.edgeSampled g = false
          ∧ ((s.gate g).alarmRaised = true ∨ s.sampleActive g = false
            ∨ s.instant < mark + 10000 * (s.gate g).config.blockAlarmTime.toNat)
      | .blocked mark => s.sampleActive g = true
          ∧ ((s.gate g).alarmRaised = true ∨ s.instant < mark + 10000 * (s.gate g).config.blockAlarmTime.toNat))
  ∧ (∀ i, s.expires i = false)
  ∧ (∀ e, s.session.retryTimer = some e → s.instant < e) ∧ (∀ e, s.session.keepaliveTimer = some e → s.instant < e)
  ∧ (match s.link.receiver with
      | .hunting => True
      | .length | .body .. => s.instant ≤ s.link.lastCharacter + 100
      | .lapsed => s.instant < s.link.lastCharacter + 120)

/-- The Session offers the report `r` to the transmitter: the session is OPEN, fewer reports than the window are in flight,
no RESET PART awaits the completion of its reply, and `r` is the oldest unsent report (R138, R149). -/
abbrev State.Offers (s : State) (r : Report) : Prop :=
  s.session.state = .opened ∧ s.session.reports.countP (fun r => r.delivery = .inFlight) < s.session.window.toNat
  ∧ s.resetDecided = false ∧ r.delivery = .unsent
  ∧ ∃ older newer, s.session.reports = older ++ r :: newer ∧ ∀ r' ∈ older, r'.delivery = .inFlight

/-- The Session offers no report to the transmitter (R138, R149). -/
abbrev State.OffersNone (s : State) : Prop :=
  s.session.state ≠ .opened
  ∨ s.session.window.toNat ≤ s.session.reports.countP (fun r => r.delivery = .inFlight)
  ∨ s.resetDecided = true ∨ (∀ r ∈ s.session.reports, r.delivery = .inFlight)

/-- The receiver after the gap has been judged at `now`, and whether a partial frame has been discarded (R126): one instant
after 10 ms without a character LENGTH and BODY have lapsed; 2 ms later a lapsed frame is discarded (log entry 13). -/
abbrev LinkController.GapJudged (l : LinkController) (now : Instant) (r : Receiver) (dropped : Bool) : Prop :=
  (l.receiver = .hunting ∧ r = .hunting ∧ dropped = false)
  ∨ ((l.receiver = .length ∨ ∃ len cs, l.receiver = .body len cs)
    ∧ (now ≤ l.lastCharacter + 100 ∧ r = l.receiver ∨ l.lastCharacter + 100 < now ∧ r = .lapsed) ∧ dropped = false)
  ∨ l.receiver = .lapsed
    ∧ (now < l.lastCharacter + 120 ∧ r = .lapsed ∧ dropped = false
      ∨ l.lastCharacter + 120 ≤ now ∧ r = .hunting ∧ dropped = true)

/-- No head at a candidate step of the crossing `c` is overdue: a head that is ON_COURSE with a deadline has it at or
after the time of `c` (R91, R92). -/
abbrev State.HeadsInTime (s : State) (c : Crossing) : Prop :=
  ∀ course k i r d, s.tracker.course = some course → course.gateOf k = some c.gate → (s.queue k).head? = some i →
    s.run i = some r → r.state = .onCourse → r.deadline = some d → c.time ≤ d

/-- The head of step `k`, a step of 1 or more, is not eligible for a crossing timed `t`: the time is earlier than its
last split time plus the step's minimum interval (R93). -/
abbrev State.TooSoonAt (s : State) (course : Course) (t : Tick) (k : Nat) (i : Slot) : Prop :=
  0 < k ∧ ∃ r last, s.run i = some r ∧ r.lastTime = some last ∧ t.toNat < last.toNat + course.intervalTicks k

/-- `u` is `s` with the runs in the slots `es` ended over time, in that order: each leaves its queue and is NOT_FINISHED
with end reason OVER_TIME, its splits and deadline kept, and RUN ENDED is stored for it with no elapsed time (R72). -/
def State.EndedOverTime (s u : State) (es : List Slot) : Prop :=
  u = { s with
    tracker := { s.tracker with
      runs := u.tracker.runs
      queues := s.tracker.queues.map fun q => q.filter fun i => !es.contains i }
    session := es.foldl (fun ss i =>
      match s.run i with
      | some r => ss.store s.clock.count (.runEnded r.number .overTime none)
      | none => ss) s.session }
  ∧ ∀ i : Slot, u.run i =
      if i ∈ es then (s.run i).map fun r => { r with state := .notFinished, endReason := some .overTime } else s.run i

/-- `u` is `s` with every run of the start queue started at `t` in start-queue order: each takes a step-0 split with
source GROUP and its deadline, the start queue is empty, the runs stand in their order behind those of the step-1 queue,
and RUN STARTED is stored for each (R69, R73, R98). -/
def State.GroupStarted (s u : State) (course : Course) (t : Tick) : Prop :=
  (∃ q0 q1 qs, s.tracker.queues = q0 :: q1 :: qs ∧ u = { s with
    tracker := { s.tracker with runs := u.tracker.runs, queues := [] :: (q1 ++ q0) :: qs }
    session := q0.foldl (fun ss i =>
      match s.run i with
      | some r => ss.store s.clock.count (.runStarted r.number i t .group)
      | none => ss) s.session })
  ∧ ∀ i : Slot, u.run i =
      if i ∈ s.queue 0 then
        (s.run i).map fun r =>
          { r with state := .onCourse, splits := [⟨0, .group, t, false⟩], deadline := course.deadlineFrom t }
      else s.run i

/-! ## Requests and frames, as the statements read them -/

/-- The codes of the requests with the length of each one's payload, but for SET COURSE (0x20), whose length is 5 and 3
for each step of its step count (R165). -/
def requestTable : List (Byte × Nat) :=
  [(0x01, 3), (0x02, 0), (0x03, 0), (0x04, 0), (0x05, 0), (0x10, 7), (0x11, 2), (0x18, 1), (0x19, 0), (0x1A, 5),
   (0x1B, 0), (0x1C, 0), (0x1D, 0), (0x1E, 0), (0x21, 0), (0x28, 2), (0x29, 2), (0x2A, 5), (0x2B, 2), (0x2C, 2),
   (0x2D, 0), (0x30, 0), (0x31, 0), (0x32, 5), (0x33, 6), (0x34, 2), (0x35, 4), (0x36, 1), (0x37, 0), (0x38, 5)]

/-- The payload has the length that R165 gives for the code. -/
abbrev RequestEntry.LengthRight (r : RequestEntry) : Prop :=
  (r.code, r.payload.length) ∈ requestTable
  ∨ r.code = 0x20 ∧ ∃ n, r.payload[2]? = some n ∧ r.payload.length = 5 + 3 * n.toNat

/-- The code names a request (R165). -/
abbrev RequestEntry.Known (r : RequestEntry) : Prop := r.code = 0x20 ∨ ∃ n, (r.code, n) ∈ requestTable

/-- `c` is the last character of a frame with a good CRC and the given body, whose other characters the receiver has
collected (R124, R125). -/
abbrev State.Completes (s : State) (c : Byte) (body : List Byte) : Prop :=
  s.pins.resetLow = false ∧ s.link.breakHeld = false ∧ body.length ≤ 244
  ∧ ∃ cs, s.link.receiver = .body (byteOf body.length) cs
      ∧ cs ++ [c] = body ++ bytes16 (crc16 (byteOf body.length :: body))

/-- The Link Controller after the last character of a frame: HUNTING, the gap measured from now (R124, R126). -/
def LinkController.received (l : LinkController) (now : Instant) : LinkController :=
  { l with receiver := .hunting, lastCharacter := now }

/-- `t` is the state of a receiver that hunts from `s` over the characters given, as if they were arriving (R124, R125):
each that is no sync byte is passed over; a length byte out of range, and a bad CRC, are counted and the characters
after the sync byte examined again; a good request frame goes to the Session and to the screening, any other good frame is
counted, and the hunt goes on behind it. -/
inductive Examined : State → List Byte → State → Prop
  | used {s} : Examined s [] { s with link := { s.link with receiver := .hunting } }
  | passed {s t c rest} : c ≠ 0xD3 → Examined s rest t → Examined s (c :: rest) t
  | atSync {s} : Examined s [0xD3] { s with link := { s.link with receiver := .length } }
  | badLength {s t len rest} : len.toNat < 4 ∨ 244 < len.toNat →
    Examined { s with link := { s.link with badFrames := s.link.badFrames.saturatingSucc } } (len :: rest) t →
    Examined s (0xD3 :: len :: rest) t
  | inBody {s len rest} : 4 ≤ len.toNat → len.toNat ≤ 244 → rest.length < len.toNat + 2 →
    Examined s (0xD3 :: len :: rest) { s with link := { s.link with receiver := .body len rest } }
  | badCrc {s t len hi lo body rest} : 4 ≤ len.toNat → len.toNat ≤ 244 → body.length = len.toNat →
    hi ++ lo ≠ crc16 (len :: body) →
    Examined { s with link := { s.link with badFrames := s.link.badFrames.saturatingSucc } }
      (len :: body ++ hi :: lo :: rest) t →
    Examined s (0xD3 :: len :: body ++ hi :: lo :: rest) t
  | request {s t len hi lo code tag ackHi ackLo payload rest} : len.toNat = payload.length + 4 → len.toNat ≤ 244 →
    hi ++ lo = crc16 (len :: code :: tag :: ackHi :: ackLo :: payload) → code.toNat < 0x40 →
    Examined { s with
      session := s.session.arrival s.instant (word16 ackHi ackLo)
      link := s.link.screen code tag payload } rest t →
    Examined s (0xD3 :: len :: code :: tag :: ackHi :: ackLo :: payload ++ hi :: lo :: rest) t
  | noRequest {s t len hi lo type body rest} : 4 ≤ len.toNat → len.toNat ≤ 244 → body.length + 1 = len.toNat →
    hi ++ lo = crc16 (len :: type :: body) → 0x40 ≤ type.toNat →
    Examined { s with link := { s.link with badFrames := s.link.badFrames.saturatingSucc } } rest t →
    Examined s (0xD3 :: len :: type :: body ++ hi :: lo :: rest) t

/-- The commands by which the receiver receives a whole frame with the given body: its sync byte, its length byte, the
body and the first CRC byte, and the last CRC byte (R124). -/
def receiving (body : List Byte) : List Instr :=
  let crc := crc16 (byteOf body.length :: body)
  .syncByteFound :: .lengthAccepted (byteOf body.length) :: (body ++ [crc.extractLsb' 8 8]).map .bodyCharacter
    ++ [.frameComplete (crc.extractLsb' 0 8)]

/-- The state after commands run one after another; `none` when one of them stops. -/
def runAll : List Instr → State → Option State
  | [], s => some s
  | c :: cs, s =>
    match exec c s with
    | .next t => runAll cs t
    | .fault _ => none
    | .refused _ => none

/-! ## Capacities -/

/-- The bounds of the held things: 32 crossings, 16 unassigned entries (R37), 48 reports (R148), 2 requests (R133).
The 24 runs and the one short reply are bounded by their types. -/
abbrev State.WithinCapacity (s : State) : Prop :=
  s.crossings.records.length ≤ Config.crossingCapacity
  ∧ s.tracker.unassigned.length ≤ Config.unassignedCapacity
  ∧ s.session.reports.length ≤ Config.reportCapacity
  ∧ s.link.buffer.length ≤ Config.bufferCapacity

/-! ## The clock and crossing times -/

/-- A clock state has a count that R1, R2, R10 and the states table of 1.2 allow: 0 in IDLE and ARMED; in HALTING a
count up to a target that is a hundredth boundary or the limit; in HALTED a hundredth boundary or the limit. -/
abbrev RaceClock.Lawful (c : RaceClock) : Prop :=
  match c.state with
  | .idle | .armed _ => c.count = 0
  | .running => True
  | .halting target =>
    c.count ≤ target ∧ (target.toNat % Config.ticksPerHundredth = 0 ∨ target = Config.countLimit)
  | .halted => c.count.toNat % Config.ticksPerHundredth = 0 ∨ c.count = Config.countLimit

/-- A pulse being qualified whose stale mark is clear carries an edge time no later than the count, and the clock is
not IDLE (R23, R24). -/
abbrev State.EdgesTimely (s : State) : Prop :=
  ∀ g : Gate, match (s.gate g).phase with
    | .qualifying t _ false => t ≤ s.clock.count ∧ s.clock.state ≠ .idle
    | _ => True

/-- Every crossing in the Crossing Queue has a time at or before the count (R43), and the queue is empty while the
clock is IDLE or ARMED (R99). -/
abbrev State.CrossingsTimely (s : State) : Prop :=
  (∀ c ∈ s.crossings.records, c.time ≤ s.clock.count)
  ∧ (s.clock.state.mode = .idle ∨ s.clock.state.mode = .armed → s.crossings.records = [])

/-- The laws of race time together. -/
abbrev State.TimeLaw (s : State) : Prop := s.clock.Lawful ∧ s.EdgesTimely ∧ s.CrossingsTimely

/-- Crossing ids follow one another from head to tail, and the next id follows the tail's (R35). -/
abbrev CrossingQueue.IdsConsecutive (q : CrossingQueue) : Prop :=
  ∀ i, (h : i < q.records.length) → q.records[i].id + BitVec.ofNat 32 (q.records.length - i) = q.nextId

/-! ## The gates -/

/-- A gate's configuration is in the ranges of R17. -/
abbrev GateConfig.InRange (c : GateConfig) : Prop :=
  1 ≤ c.qualifyWidth.toNat ∧ c.qualifyWidth.toNat ≤ 250 ∧ 1 ≤ c.blockAlarmTime.toNat ∧ c.blockAlarmTime.toNat ≤ 60

/-- A gate is DISABLED with enabled no, or awaits its first sample with enabled yes, or is in another state with
enabled yes (R19); the alarm-raised marker is set in HOLDOFF and BLOCKED only (R31). -/
abbrev GateUnit.Lawful (u : GateUnit) : Prop :=
  u.config.InRange
  ∧ match u.phase with
    | .disabled none => u.config.enabled = false ∧ u.alarmRaised = false
    | .disabled (some _) | .idle | .qualifying .. => u.config.enabled = true ∧ u.alarmRaised = false
    | .holdoff .. | .blocked _ => u.config.enabled = true

abbrev State.GatesLawful (s : State) : Prop := ∀ g : Gate, (s.gate g).Lawful

/-! ## Courses, runs and queues -/

/-- A course has 2 to 12 steps, and step 0 has a gate exactly on a GATE course; every later step has one (R46). -/
abbrev Course.Lawful (c : Course) : Prop :=
  2 ≤ c.steps.length ∧ c.steps.length ≤ 12
  ∧ ((c.gateOf 0).isSome = true ↔ c.mode = .gate)
  ∧ ∀ k, k < c.steps.length → 0 < k → (c.gateOf k).isSome = true

/-- No two non-free slots carry the same run number (R61). -/
abbrev State.NumbersDistinct (s : State) : Prop :=
  ∀ i j : Slot, ∀ r, s.run i = some r → ∀ r', s.run j = some r' → r.number = r'.number → i = j

/-- The splits stand for steps 0, 1, 2, ... in order, and their times never decrease (R64). -/
abbrev Run.SplitsOrdered (r : Run) : Prop :=
  (∀ k, (h : k < r.splits.length) → r.splits[k].step = k)
  ∧ (r.splits.map (·.time)).Pairwise (· ≤ ·)

/-- The split count, end reason and deadline that each run state has (R62, R66), whatever the course. -/
abbrev Run.Lawful (r : Run) : Prop :=
  r.SplitsOrdered
  ∧ (r.deadline.isSome = true → r.splits ≠ [])
  ∧ match r.state with
    | .staged => r.splits = [] ∧ r.endReason = none
    | .onCourse => 1 ≤ r.splits.length ∧ r.splits.length < r.stepCount ∧ r.endReason = none
    | .finished => r.splits.length = r.stepCount ∧ r.endReason = some .finished
    | .notFinished =>
      1 ≤ r.splits.length ∧ r.splits.length < r.stepCount ∧ r.deadline.isSome = true
        ∧ r.endReason = some .overTime
    | .withdrawn => r.splits.length < r.stepCount ∧ r.endReason = some .withdrawn

/-- An active run carries the number and step count of the current course (R57), and when ON_COURSE a deadline exactly
when that course has a maximum course time (R74). -/
abbrev State.ActiveRunOf (s : State) (r : Run) : Prop :=
  r.state.active = true → ∃ c, s.tracker.course = some c ∧ r.courseNumber = c.number ∧ r.stepCount = c.steps.length
    ∧ (r.state = .onCourse → (r.deadline.isSome = true ↔ c.maxCourseTime ≠ 0))

/-- A FINISHED run whose course is current was staged under the definition now installed, and so has its step count
(R57). -/
abbrev State.FinishedRunOf (s : State) (r : Run) : Prop :=
  ∀ c, s.tracker.course = some c → r.courseNumber = c.number →
    r.stepCount = c.steps.length ∧ (r.splits ≠ [] → (r.deadline.isSome = true ↔ c.maxCourseTime ≠ 0))

/-- The step in whose queue a run stands: its split count while it is active, none in an end state (R84, R85). -/
def Run.queueStep (r : Run) : Option Nat := if r.state.active then some r.splits.length else none

/-- Every active run stands exactly once in the queue of its split count and in no other; no other run stands in a
queue; there is one queue per step of the course (R83, R84, R85). -/
abbrev State.QueuesLawful (s : State) : Prop :=
  s.tracker.queues.length = (s.tracker.course.map (·.steps.length)).getD 0
  ∧ ∀ k, k < s.tracker.queues.length → ∀ i : Slot,
      (s.queue k).count i = if (s.run i).bind (·.queueStep) = some k then 1 else 0

/-- The laws of the Run Table, the course and the queues together. -/
def State.TrackerLaw (s : State) : Prop :=
  (∀ c, s.tracker.course = some c → c.Lawful)
  ∧ s.NumbersDistinct
  ∧ (∀ i : Slot, ∀ r, s.run i = some r → r.Lawful ∧ s.ActiveRunOf r ∧ s.FinishedRunOf r)
  ∧ s.QueuesLawful

/-! ## The session and report delivery -/

/-- The sequences of the stored reports are consecutive modulo 65,536, and the next sequence follows the newest
(R148). -/
abbrev Session.SequencesConsecutive (ss : Session) : Prop :=
  ∀ i, (h : i < ss.reports.length) →
    ss.reports[i].sequence + BitVec.ofNat 16 (ss.reports.length - i) = ss.nextSequence

/-- The number in flight never exceeds the window, is zero unless the session is OPEN, and in-flight reports are older
than every unsent one (R150). -/
abbrev Session.FlightLawful (ss : Session) : Prop :=
  ss.inFlight ≤ ss.window.toNat
  ∧ (ss.state ≠ .opened → ss.inFlight = 0)
  ∧ ∀ r ∈ ss.reports.dropWhile (fun r => r.delivery == .inFlight), r.delivery = .unsent

/-- The window, the keepalive period and the retry count are in range, the retry timer runs exactly while reports are
in flight, and the keepalive timer exactly while the session is OPEN with a period (R141, R149, R152, R154). -/
abbrev Session.TimersLawful (ss : Session) : Prop :=
  1 ≤ ss.window.toNat ∧ ss.window.toNat ≤ 8 ∧ ss.keepalive.toNat ≤ 120 ∧ ss.retryCount < Config.retryLimit
  ∧ (ss.state ≠ .opened → ss.retryCount = 0)
  ∧ (ss.retryTimer.isSome = true ↔ 0 < ss.inFlight)
  ∧ (ss.keepaliveTimer.isSome = true ↔ ss.state = .opened ∧ ss.keepalive ≠ 0)

/-- The laws of report delivery together (R37's bound for the Report Queue is R148's). -/
abbrev Session.Lawful (ss : Session) : Prop :=
  ss.reports.length ≤ Config.reportCapacity ∧ ss.SequencesConsecutive ∧ ss.FlightLawful ∧ ss.TimersLawful

/-- While the assignment state is HELD, the session is OPEN (R90). -/
abbrev State.HoldLaw (s : State) : Prop := s.tracker.assignment = .held → s.session.state = .opened

/-! ## The link -/

/-- At most two requests are held; a reply is SENDING exactly while the transmitter sends it; a short reply on TXD is in the
short reply slot; and after a break the receiver hunts (R128, R133, R138). DEDUCED from 95_what_each_step_holds.md, by which
each step is whole (log entry 9): between two steps no buffered request is EXECUTING, and a request that a link reset left in
hand (R130) is EXECUTING and no RESET PART, which completes in the event of the link reset (R140). -/
abbrev LinkController.Lawful (l : LinkController) : Prop :=
  l.buffer.length ≤ Config.bufferCapacity
  ∧ (∀ e ∈ l.buffer, e.state ≠ .executing)
  ∧ (∀ e, l.inHand = some e → e.state = .executing ∧ e.isPartReset = false)
  ∧ (l.breakHeld = true → l.receiver = .hunting)
  ∧ match l.transmitter with
    | .bufferReply f => l.buffer.filter (·.isSending) = (l.buffer.filter (·.isSending)).take 1
        ∧ ∃ e ∈ l.buffer, e.state = .sending f
    | .shortReply f => l.shortReply = some f ∧ ∀ e ∈ l.buffer, e.isSending = false
    | .free | .report .. => ∀ e ∈ l.buffer, e.isSending = false

/-- A partial frame is shorter than a whole one, and its length byte is in range (R124). -/
abbrev Receiver.Lawful (r : Receiver) : Prop :=
  match r with
  | .body len cs => Config.minLength ≤ len.toNat ∧ len.toNat ≤ Config.maxLength ∧ cs.length < len.toNat + 2
  | .hunting | .length | .lapsed => True

end Sys2Proof.Machine
end

