-- ==== Sys2Proof/WellFormed.lean ====
section
/-! DEFINITION. When a command is well formed: the operand is one the row's own text admits. Only the two length
rows restrict theirs (R124); every other operand is in range by its type. -/

namespace Sys2Proof

/-- A length byte the receiver accepts, 4 to 244 (R124). -/
def lengthInRange (len : Byte) : Bool := Config.minLength ≤ len.toNat && len.toNat ≤ Config.maxLength

def Instr.wellFormed : Instr → Bool
  | .lengthAccepted len => lengthInRange len
  | .lengthOutOfRange len => !lengthInRange len
  | _ => true

end Sys2Proof
end

