-- ==== Sys2Proof/Certificates/Slice0/Obligations.lean ====
section
/-! DEFINITION. The statements about the LK-208, one `def Obligations.<Name> : Prop` each. A statement of a command gives
the whole next state: what it does not name is as before. -/

open Sys2Proof Sys2Proof.Machine

/-! ## The block as a machine -/

/-- The front command of the queue runs with the queue's rest. The queue is the model's (log entry 6). -/
def Obligations.StepRunsFrontCommand : Prop :=
  ∀ (c : Instr) (s : State), step { s with pending := c :: s.pending } = exec c s

/-- Every command answers a next state in every state, and leaves the queue alone: the manual names no condition that stops
the part. A request step other than that of the request in front, or of one that a link reset left in hand (R130), changes
nothing, nor does any when there is neither: requests are executed one at a time and in order of arrival (R136). That a step which does not arise leaves the state as it
is, is the model's choice (log entry 5). -/
def Obligations.EveryCommandIsAnsweredInTurn : Prop :=
  (∀ (c : Instr) (s : State), ∃ t, exec c s = .next t ∧ t.pending = s.pending)
  ∧ ∀ (c : Instr) (s : State), isRequestStep c = true →
    (∀ r, s.nextRequest = some r → r.step ≠ c) → (∀ r, s.link.inHand = some r → r.step ≠ c) → exec c s = .next s

/-- External reset leaves what R169 lists, from any state: the clock IDLE at 0, every gate DISABLED with the values of R17,
the Crossing Queue empty with next id 1, no course, every slot FREE, the Unassigned List empty, TAKING, the receiver
HUNTING, the buffer, the short reply slot and the reply cache empty, the session CLOSED with window 1 and keepalive period
0, the RESET report with sequence 1, cause EXTERNAL and creation time 0, unsent, the next sequence 2, and the link rate of
the straps (R123). The divider's count of instants and the levels before the first tick instant are the model's (log entries
2 and 4). RSTn going low abandons all work, whatever the part was doing, TXD is high and HLOST released; and while it is
low every command but a reset changes nothing (R169, R170). What the registers hold while RSTn is low, the clock IDLE at 0,
no course, no run, no report and the rest of the second clause, is the model's choice, since R169 gives values only from
the release on (log entry 7); so is that TXD is free in the very step, and not after the character in progress (log entry
10). The free value's place, `meetings`, is the model's (log entry 20). -/
def Obligations.ResetStartsThePart : Prop :=
  (∀ (s : State) (b1 b0 : Bool), ∃ t, exec (.externalReset b1 b0) s = .next t
    ∧ t.clock = ⟨.idle, 0⟩
    ∧ (∀ g : Gate, t.gate g = ⟨⟨false, .activeLow, 10, 20, 5, false⟩, .disabled none, false, ⟨0, 0, 0, 0⟩⟩)
    ∧ t.crossings = ⟨[], 1⟩
    ∧ t.tracker.course = none ∧ t.tracker.queues = [] ∧ (∀ i : Slot, t.run i = none)
    ∧ t.tracker.unassigned = [] ∧ t.tracker.assignment = .taking
    ∧ t.link.rate = (if b1 then if b0 then .bps921600 else .bps460800 else if b0 then .bps230400 else .bps115200)
    ∧ t.link.receiver = .hunting ∧ t.link.buffer = [] ∧ t.link.shortReply = none ∧ t.link.replyCache = none
    ∧ t.link.transmitter = .free ∧ t.link.badFrames = 0 ∧ t.link.breakHeld = false ∧ t.link.inHand = none
    ∧ t.meetings = s.meetings
    ∧ t.session = ⟨.closed, 1, 0, 0, none, none, [⟨1, .reset .external, 0, none, .unsent⟩], 0, 2⟩
    ∧ t.pins.resetLow = false ∧ t.hlost = false ∧ t.txdFrame = none ∧ t.pending = s.pending)
  ∧ (∀ s : State, ∃ t, exec .rstnLow s = .next t
    ∧ t.pins.resetLow = true ∧ t.txdFrame = none ∧ t.hlost = false
    ∧ t.clock = ⟨.idle, 0⟩ ∧ (∀ g : Gate, (t.gate g).phase = .disabled none) ∧ t.crossings.records = []
    ∧ t.tracker.course = none ∧ (∀ i : Slot, t.run i = none) ∧ t.tracker.unassigned = []
    ∧ t.link.receiver = .hunting ∧ t.link.buffer = [] ∧ t.link.shortReply = none ∧ t.link.replyCache = none
    ∧ t.link.inHand = none ∧ t.session.state = .closed ∧ t.session.reports = [] ∧ t.pending = s.pending)
  ∧ ∀ (c : Instr) (s : State), s.pins.resetLow = true → c ≠ .rstnLow → (∀ b1 b0, c ≠ .externalReset b1 b0) →
      exec c s = .next s

/-- The state after reset keeps every law of the part. -/
def Obligations.ResetKeepsEveryLaw : Prop :=
  State.reset.WithinCapacity ∧ State.reset.TimeLaw ∧ State.reset.crossings.IdsConsecutive ∧ State.reset.GatesLawful
  ∧ State.reset.TrackerLaw ∧ State.reset.session.Lawful ∧ State.reset.HoldLaw ∧ State.reset.link.Lawful
  ∧ State.reset.link.receiver.Lawful

/-! ## The gates -/

/-- What a gate samples: low is active for ACTIVE_LOW and high for ACTIVE_HIGH (R22). An active sample at an IDLE gate
latches the count as edge time and sets the stale mark exactly when the clock is IDLE (R23). An inactive sample after the
edge makes the pulse short: IDLE, and the short count one up (R25). -/
def Obligations.EdgesAndShortPulses : Prop :=
  (∀ (s : State) (g : Gate), s.sampleActive g = true ↔
    ((s.gate g).config.polarity = .activeHigh ∧ s.pins.levels.getLsbD g = true)
    ∨ ((s.gate g).config.polarity = .activeLow ∧ s.pins.levels.getLsbD g = false))
  ∧ (∀ (s : State) (g : Gate), s.pins.resetLow = false → (s.gate g).phase = .idle → s.sampleActive g = true →
    exec (.leadingEdge g) s = .next { s with
      gates := s.gates.set g { s.gate g with
        phase := .qualifying s.clock.count s.instant (decide (s.clock.state = .idle)) } })
  ∧ (∀ (s : State) (g : Gate) (t : Tick) (e : Instant) (stale : Bool), s.pins.resetLow = false →
    (s.gate g).phase = .qualifying t e stale → e < s.instant → s.sampleActive g = false →
    exec (.shortPulse g) s = .next { s with
      gates := s.gates.set g { s.gate g with
        phase := .idle
        counters := { (s.gate g).counters with short := (s.gate g).counters.short.saturatingSucc } } })

/-- An acceptance whose stale mark is clear, with the clock RUNNING or HALTING, makes a crossing with the edge time (R26):
appended at the tail with the next id, counted accepted and, with raw reporting, reported; or, with 32 held, lost, counted
lost and reported (R27, R38). The gate is in HOLDOFF for 100 ticks a unit from now, its mark at the accepted edge, or in
BLOCKED at once with a holdoff of 0 (R28). An acceptance that is stale, or finds the clock IDLE or HALTED, or ARMED on
another gate, is ignored: the gate still enters HOLDOFF, the ignored count is one up, and nothing else changes (R26, R7).
That no deadline is examined at the append is the model's choice between R42 and R100 (log entry 23). -/
def Obligations.AcceptanceCountedOrIgnored : Prop :=
  (∀ (s : State) (g : Gate) (t : Tick) (e : Instant) (p : GatePhase), s.pins.resetLow = false →
    (s.gate g).phase = .qualifying t e false → s.sampleActive g = true →
    e + (s.gate g).config.qualifyWidth.toNat ≤ s.instant → s.clock.state.counting = true →
    p = (if (s.gate g).config.holdoff.toNat = 0 then .blocked e
      else .holdoff (s.instant + 100 * (s.gate g).config.holdoff.toNat) e) →
    (s.crossings.records.length < 32 →
      exec (.acceptance g) s = .next { s with
        gates := s.gates.set g { s.gate g with
          phase := p
          counters := { (s.gate g).counters with accepted := (s.gate g).counters.accepted.saturatingSucc } }
        crossings := ⟨s.crossings.records ++ [⟨s.crossings.nextId, g, t, .sensor⟩], s.crossings.nextId + 1⟩
        session :=
          if (s.gate g).config.rawReport then
            s.session.store s.clock.count (.crossing ⟨s.crossings.nextId, g, t, .sensor⟩)
          else s.session })
    ∧ (32 ≤ s.crossings.records.length →
      exec (.acceptance g) s = .next { s with
        gates := s.gates.set g { s.gate g with
          phase := p
          counters := { (s.gate g).counters with lost := (s.gate g).counters.lost.saturatingSucc } }
        session := s.session.store s.clock.count (.crossingLost g t) }))
  ∧ ∀ (s : State) (g : Gate) (t : Tick) (e : Instant) (stale : Bool) (p : GatePhase), s.pins.resetLow = false →
    (s.gate g).phase = .qualifying t e stale → s.sampleActive g = true →
    e + (s.gate g).config.qualifyWidth.toNat ≤ s.instant →
    (stale = true ∨ s.clock.state = .idle ∨ s.clock.state = .halted ∨ ∃ h, s.clock.state = .armed h ∧ h ≠ g) →
    p = (if (s.gate g).config.holdoff.toNat = 0 then .blocked e
      else .holdoff (s.instant + 100 * (s.gate g).config.holdoff.toNat) e) →
    exec (.acceptance g) s = .next { s with
      gates := s.gates.set g { s.gate g with
        phase := p
        counters := { (s.gate g).counters with ignored := (s.gate g).counters.ignored.saturatingSucc } } }

/-- The triggered start (R6): at an acceptance by the trigger gate of an armed clock the count becomes the gate's qualify
width and the clock runs, CLOCK STATE (RUNNING, TRIGGER) is queued, the clock-start event is given with start count 0 (R9),
and then the trigger crossing is offered with time 0, appended and counted, or lost. That no deadline is examined at the
append is the model's choice between R42 and R100 (log entry 23). -/
def Obligations.AcceptanceStartsTheArmedClock : Prop :=
  ∀ (s u : State) (g : Gate) (t w : Tick) (e : Instant) (p : GatePhase), s.pins.resetLow = false →
    (s.gate g).phase = .qualifying t e false → s.sampleActive g = true →
    e + (s.gate g).config.qualifyWidth.toNat ≤ s.instant → s.clock.state = .armed g →
    p = (if (s.gate g).config.holdoff.toNat = 0 then .blocked e
      else .holdoff (s.instant + 100 * (s.gate g).config.holdoff.toNat) e) →
    w = BitVec.ofNat 32 (s.gate g).config.qualifyWidth.toNat →
    u = State.clockStartEvent { s with
      clock := ⟨.running, w⟩
      session := s.session.store w (.clockState .running .trigger) } 0 →
    (s.crossings.records.length < 32 →
      exec (.acceptance g) s = .next { u with
        gates := s.gates.set g { s.gate g with
          phase := p
          counters := { (s.gate g).counters with accepted := (s.gate g).counters.accepted.saturatingSucc } }
        crossings := ⟨s.crossings.records ++ [⟨s.crossings.nextId, g, 0, .sensor⟩], s.crossings.nextId + 1⟩
        session :=
          if (s.gate g).config.rawReport then
            u.session.store w (.crossing ⟨s.crossings.nextId, g, 0, .sensor⟩)
          else u.session })
    ∧ (32 ≤ s.crossings.records.length →
      exec (.acceptance g) s = .next { u with
        gates := s.gates.set g { s.gate g with
          phase := p
          counters := { (s.gate g).counters with lost := (s.gate g).counters.lost.saturatingSucc } }
        session := u.session.store w (.crossingLost g 0) })

/-- In HOLDOFF an active sample after an inactive one moves the active-since mark to now and does nothing else. At the
holdoff end the gate goes to IDLE on an inactive sample, clearing a raised alarm with its report, and to BLOCKED on an
active one, its mark kept, or set to now when the sample before was inactive (R28, R30, R31). An inactive sample in BLOCKED
returns the gate to IDLE, clearing a raised alarm with its report (R29, R31). With the marker clear, GATE ALARM BLOCKED is
queued and the marker set once the input has been active for the block alarm time since the mark, in HOLDOFF and BLOCKED
alike (R31). -/
def Obligations.HoldoffAndBlockedSteps : Prop :=
  (∀ (s : State) (g : Gate) (till mark : Instant), s.pins.resetLow = false → (s.gate g).phase = .holdoff till mark →
    (s.sampleActive g = true → s.priorActive g = false →
      exec (.edgeInHoldoff g) s = .next { s with
        gates := s.gates.set g { s.gate g with phase := .holdoff till s.instant } })
    ∧ (till ≤ s.instant → s.sampleActive g = false →
      exec (.holdoffEnd g) s = .next { s with
        gates := s.gates.set g { s.gate g with phase := .idle, alarmRaised := false }
        session :=
          if (s.gate g).alarmRaised then s.session.store s.clock.count (.gateAlarm g .cleared) else s.session })
    ∧ (till ≤ s.instant → s.sampleActive g = true →
      exec (.holdoffEnd g) s = .next { s with
        gates := s.gates.set g { s.gate g with
          phase := .blocked (if s.priorActive g then mark else s.instant) } }))
  ∧ (∀ (s : State) (g : Gate) (mark : Instant), s.pins.resetLow = false → (s.gate g).phase = .blocked mark →
    s.sampleActive g = false →
    exec (.blockedInputInactive g) s = .next { s with
      gates := s.gates.set g { s.gate g with phase := .idle, alarmRaised := false }
      session :=
        if (s.gate g).alarmRaised then s.session.store s.clock.count (.gateAlarm g .cleared) else s.session })
  ∧ (∀ (s : State) (g : Gate) (mark : Instant), s.pins.resetLow = false →
    ((s.gate g).phase = .blocked mark ∨ ∃ till, (s.gate g).phase = .holdoff till mark) →
    s.sampleActive g = true → s.priorActive g = true →
    mark + 10000 * (s.gate g).config.blockAlarmTime.toNat ≤ s.instant → (s.gate g).alarmRaised = false →
    exec (.gateAlarmBlocked g) s = .next { s with
      gates := s.gates.set g { s.gate g with alarmRaised := true }
      session := s.session.store s.clock.count (.gateAlarm g .blocked) })

/-- SET GATE with enabled no, in every gate state: the six fields take the values carried, and the pulse, the holdoff, the
marks and a raised alarm go without a report or a count; a field out of its range is refused BAD_VALUE (R18). That it is
SET_GATE_DISABLE, and not SET_GATE_ENABLE, that answers a SET GATE whose enabled byte is neither 0 nor 1 is the model's
choice: the table has the two rows and names none for it (log entry 8). -/
def Obligations.SetGateDisables : Prop :=
  ∀ (s : State) (tag bg en pol q h b raw : Byte), s.session.state ≠ .closed → en ≠ 1 →
    s.NextIs 0x10 tag [bg, en, pol, q, h, b, raw] →
    (∀ (g : Gate) (cfg : GateConfig), bg = BitVec.ofNat 8 g → en = 0 → cfg.enabled = false →
      (pol = 0 ∧ cfg.polarity = .activeLow ∨ pol = 1 ∧ cfg.polarity = .activeHigh) →
      cfg.qualifyWidth = q → 1 ≤ q.toNat → q.toNat ≤ 250 → cfg.holdoff = h → cfg.blockAlarmTime = b →
      1 ≤ b.toNat → b.toNat ≤ 60 → (raw = 0 ∧ cfg.rawReport = false ∨ raw = 1 ∧ cfg.rawReport = true) →
      exec .setGateDisable s = .next { s with
        gates := s.gates.set g { s.gate g with config := cfg, phase := .disabled none, alarmRaised := false }
        link := s.link.answer .ok })
    ∧ (7 < bg.toNat ∨ 1 < en.toNat ∨ 1 < pol.toNat ∨ q = 0 ∨ 250 < q.toNat ∨ b = 0 ∨ 60 < b.toNat ∨ 1 < raw.toNat →
      exec .setGateDisable s = .next { s with link := s.link.answer (.refuse .badValue) })

/-- SET GATE with enabled yes (R19): a DISABLED gate takes the six fields, stays DISABLED and awaits the next tick instant;
an enabled gate answers OK to its own fields, and WRONG_STATE to any other, and changes nothing; a field out of its range is
refused BAD_VALUE. At the first tick instant after the take the gate goes to IDLE or, with its input active, to BLOCKED with
its mark at that instant. That a SET GATE which meets a first sample due at this instant starts the wait anew, so that the
gate reads its input one tick instant later, is the model's choice (log entry 22). -/
def Obligations.SetGateEnables : Prop :=
  (∀ (s : State) (tag bg pol q h b raw : Byte) (g : Gate) (cfg : GateConfig), s.session.state ≠ .closed →
    s.NextIs 0x10 tag [bg, 1, pol, q, h, b, raw] → bg = BitVec.ofNat 8 g → cfg.enabled = true →
    (pol = 0 ∧ cfg.polarity = .activeLow ∨ pol = 1 ∧ cfg.polarity = .activeHigh) →
    cfg.qualifyWidth = q → 1 ≤ q.toNat → q.toNat ≤ 250 → cfg.holdoff = h → cfg.blockAlarmTime = b →
    1 ≤ b.toNat → b.toNat ≤ 60 → (raw = 0 ∧ cfg.rawReport = false ∨ raw = 1 ∧ cfg.rawReport = true) →
    ((∃ w, (s.gate g).phase = .disabled w) →
      exec .setGateEnable s = .next { s with
        gates := s.gates.set g { s.gate g with config := cfg, phase := .disabled (some s.instant) }
        link := s.link.answer .ok })
    ∧ ((∀ w, (s.gate g).phase ≠ .disabled w) →
      exec .setGateEnable s = .next { s with
        link := s.link.answer (if cfg = (s.gate g).config then .ok else .refuse .wrongState) }))
  ∧ (∀ (s : State) (tag bg pol q h b raw : Byte), s.session.state ≠ .closed →
    s.NextIs 0x10 tag [bg, 1, pol, q, h, b, raw] →
    (7 < bg.toNat ∨ 1 < pol.toNat ∨ q = 0 ∨ 250 < q.toNat ∨ b = 0 ∨ 60 < b.toNat ∨ 1 < raw.toNat) →
    exec .setGateEnable s = .next { s with link := s.link.answer (.refuse .badValue) })
  ∧ (∀ (s : State) (g : Gate) (at' : Instant), s.pins.resetLow = false →
    (s.gate g).phase = .disabled (some at') → at' < s.instant → (s.gate g).alarmRaised = false →
    exec (.gateEnableSample g) s = .next { s with
      gates := s.gates.set g { s.gate g with
        phase := if s.sampleActive g then .blocked s.instant else .idle } })

/-- GET GATE in every gate state (R20): the reply carries the six fields, the gate state and the four counters as they
stand; with the clear flag the counters are then 0, and nothing else changes; a gate above 7 or a flag that is neither yes
nor no is refused BAD_VALUE. -/
def Obligations.GetGateReadsAndClears : Prop :=
  ∀ (s : State) (tag bg clear : Byte), s.session.state ≠ .closed → s.NextIs 0x11 tag [bg, clear] →
    (7 < bg.toNat ∨ 1 < clear.toNat →
      exec .getGate s = .next { s with link := s.link.answer (.refuse .badValue) })
    ∧ ∀ (g : Gate) (u : GateUnit), bg = BitVec.ofNat 8 g → u = s.gate g → clear.toNat ≤ 1 →
      exec .getGate s = .next { s with
        gates := if clear = 1 then s.gates.set g { u with counters := ⟨0, 0, 0, 0⟩ } else s.gates
        link := s.link.answer (.ok
          ([if u.config.enabled then 1 else 0, u.config.polarity.code, u.config.qualifyWidth, u.config.holdoff,
            u.config.blockAlarmTime, if u.config.rawReport then 1 else 0, u.phase.code]
          ++ bytes16 u.counters.accepted ++ bytes16 u.counters.short ++ bytes16 u.counters.ignored
          ++ bytes16 u.counters.lost)) }

/-! ## The Race Clock -/

/-- ARM CLOCK (R4): with the clock IDLE and the named gate enabled the clock is ARMED on it, the count stays, and CLOCK
STATE (ARMED, REQUEST) is queued; with the gate disabled, or in any other clock state, it is refused WRONG_STATE with no
change; a gate above 7 is refused BAD_VALUE. DISARM CLOCK (R5): an ARMED clock is IDLE again with its count, CLOCK STATE
(IDLE, REQUEST) is queued, and every QUALIFYING gate sets its stale mark (R24); in every other clock state it is refused
WRONG_STATE with no change. -/
def Obligations.ArmAndDisarmClock : Prop :=
  (∀ (s : State) (tag b : Byte), s.session.state ≠ .closed → s.NextIs 0x18 tag [b] →
    (7 < b.toNat → exec .armClock s = .next { s with link := s.link.answer (.refuse .badValue) })
    ∧ ∀ g : Gate, b = BitVec.ofNat 8 g →
      (s.clock.state = .idle → (s.gate g).config.enabled = true →
        exec .armClock s = .next { s with
          clock := ⟨.armed g, s.clock.count⟩
          session := s.session.store s.clock.count (.clockState .armed .request)
          link := s.link.answer .ok })
      ∧ (s.clock.state ≠ .idle ∨ (s.gate g).config.enabled = false →
        exec .armClock s = .next { s with link := s.link.answer (.refuse .wrongState) }))
  ∧ ∀ (s : State) (tag : Byte), s.session.state ≠ .closed → s.NextIs 0x19 tag [] →
    (∀ (g : Gate) (gs : Vector GateUnit 8), s.clock.state = .armed g →
      (∀ h : Gate, gs[h] = match (s.gate h).phase with
        | .qualifying t e _ => { s.gate h with phase := .qualifying t e true }
        | _ => s.gate h) →
      exec .disarmClock s = .next { s with
        clock := ⟨.idle, s.clock.count⟩
        gates := gs
        session := s.session.store s.clock.count (.clockState .idle .request)
        link := s.link.answer .ok })
    ∧ ((∀ g, s.clock.state ≠ .armed g) →
      exec .disarmClock s = .next { s with link := s.link.answer (.refuse .wrongState) })

/-- START CLOCK (R8): an IDLE clock runs from the preset, 0 when absent, CLOCK STATE (RUNNING, REQUEST) is queued with the
preset as its creation time, and then the clock-start event is given with the preset (R9); in every other clock state it is
refused WRONG_STATE; a preset of 4,294,967,295 or a presence byte that is neither 0 nor 1 is refused BAD_VALUE. That a
start of no group examines no deadline, so that a reopened run which stands ON_COURSE and whose deadline the preset passes
does not end in it, is the model's choice, where R100 leaves open at which examination it ends (log entry 19). -/
def Obligations.StartClockStarts : Prop :=
  ∀ (s : State) (tag p b3 b2 b1 b0 : Byte) (preset : Tick), s.session.state ≠ .closed →
    s.NextIs 0x1A tag [p, b3, b2, b1, b0] → preset = (if p = 0 then 0 else word32 b3 b2 b1 b0) →
    (1 < p.toNat ∨ preset = 0xFFFFFFFF →
      exec .startClock s = .next { s with link := s.link.answer (.refuse .badValue) })
    ∧ (p.toNat ≤ 1 → preset ≠ 0xFFFFFFFF →
      (∀ u : State, s.clock.state = .idle →
        u = State.clockStartEvent { s with
          clock := ⟨.running, preset⟩
          session := s.session.store preset (.clockState .running .request) } preset →
        exec .startClock s = .next { u with link := s.link.answer .ok })
      ∧ (s.clock.state ≠ .idle →
        exec .startClock s = .next { s with link := s.link.answer (.refuse .wrongState) }))

/-- HALT CLOCK (R10): a RUNNING clock is HALTING with the smallest multiple of 100 above its count as target, or the limit
if that exceeds it, and CLOCK STATE (HALTING, REQUEST) is queued; in HALTING and HALTED it is answered OK with no change; in
IDLE and ARMED it is refused WRONG_STATE. RESUME CLOCK (R12): a clock HALTED below the limit, or HALTING, runs on from its
count, and CLOCK STATE (RUNNING, REQUEST) is queued; HALTED at the limit, IDLE and ARMED it is refused WRONG_STATE; RUNNING
it is answered OK with no change. -/
def Obligations.HaltAndResumeClock : Prop :=
  (∀ (s : State) (tag : Byte), s.session.state ≠ .closed → s.NextIs 0x1B tag [] →
    (∀ target : Tick, s.clock.state = .running →
      (s.clock.count < target ∧ target.toNat % 100 = 0 ∧ target.toNat ≤ s.clock.count.toNat + 100
        ∨ 4294967200 ≤ s.clock.count.toNat ∧ target = 0xFFFFFFFF) →
      exec .haltClock s = .next { s with
        clock := ⟨.halting target, s.clock.count⟩
        session := s.session.store s.clock.count (.clockState .halting .request)
        link := s.link.answer .ok })
    ∧ ((s.clock.state = .halted ∨ ∃ target, s.clock.state = .halting target) →
      exec .haltClock s = .next { s with link := s.link.answer .ok })
    ∧ ((s.clock.state = .idle ∨ ∃ g, s.clock.state = .armed g) →
      exec .haltClock s = .next { s with link := s.link.answer (.refuse .wrongState) }))
  ∧ ∀ (s : State) (tag : Byte), s.session.state ≠ .closed → s.NextIs 0x1C tag [] →
    ((s.clock.state = .halted ∧ s.clock.count ≠ 0xFFFFFFFF ∨ ∃ target, s.clock.state = .halting target) →
      exec .resumeClock s = .next { s with
        clock := ⟨.running, s.clock.count⟩
        session := s.session.store s.clock.count (.clockState .running .request)
        link := s.link.answer .ok })
    ∧ ((s.clock.state = .halted ∧ s.clock.count = 0xFFFFFFFF ∨ s.clock.state = .idle
        ∨ ∃ g, s.clock.state = .armed g) →
      exec .resumeClock s = .next { s with link := s.link.answer (.refuse .wrongState) })
    ∧ (s.clock.state = .running → exec .resumeClock s = .next { s with link := s.link.answer .ok })

/-- CLEAR CLOCK with its checks in their order (R14): ARMED, RUNNING or HALTING refused WRONG_STATE; any run ON_COURSE,
RUNS_ACTIVE; any crossing waiting, WRONG_STATE. Else the count is 0, the clock IDLE and the Unassigned List empty, and the
reply tells how many entries went; from HALTED, CLOCK STATE (IDLE, REQUEST) is queued with creation time 0 and every
QUALIFYING gate sets its stale mark (R24); from IDLE no report is queued. -/
def Obligations.ClearClockClears : Prop :=
  ∀ (s : State) (tag : Byte), s.session.state ≠ .closed → s.NextIs 0x1D tag [] →
    (s.clock.state ≠ .idle → s.clock.state ≠ .halted →
      exec .clearClock s = .next { s with link := s.link.answer (.refuse .wrongState) })
    ∧ (s.clock.state = .idle ∨ s.clock.state = .halted →
      ((∃ i r, s.run i = some r ∧ r.state = .onCourse) →
        exec .clearClock s = .next { s with link := s.link.answer (.refuse .runsActive) })
      ∧ ((∀ i r, s.run i = some r → r.state ≠ .onCourse) → s.crossings.records ≠ [] →
        exec .clearClock s = .next { s with link := s.link.answer (.refuse .wrongState) })
      ∧ ((∀ i r, s.run i = some r → r.state ≠ .onCourse) → s.crossings.records = [] →
        ∀ gs : Vector GateUnit 8,
        (∀ h : Gate, gs[h] = match s.clock.state, (s.gate h).phase with
          | .halted, .qualifying t e _ => { s.gate h with phase := .qualifying t e true }
          | _, _ => s.gate h) →
        exec .clearClock s = .next { s with
          clock := ⟨.idle, 0⟩
          gates := gs
          tracker := { s.tracker with unassigned := [] }
          session :=
            if s.clock.state = .halted then s.session.store 0 (.clockState .idle .request) else s.session
          link := s.link.answer (.ok [BitVec.ofNat 8 s.tracker.unassigned.length]) }))

/-- READ CLOCK in every clock state (R15): it changes nothing, and the reply gives the clock state, the count, the trigger
gate or its absence, and the halt target or its absence. -/
def Obligations.ReadClockReads : Prop :=
  ∀ (s : State) (tag state trigger : Byte) (target : Tick), s.session.state ≠ .closed → s.NextIs 0x1E tag [] →
    (s.clock.state = .idle ∧ state = 0 ∧ trigger = 0xFF ∧ target = 0
      ∨ (∃ g : Gate, s.clock.state = .armed g ∧ state = 1 ∧ trigger = BitVec.ofNat 8 g ∧ target = 0)
      ∨ s.clock.state = .running ∧ state = 2 ∧ trigger = 0xFF ∧ target = 0
      ∨ s.clock.state = .halting target ∧ state = 3 ∧ trigger = 0xFF
      ∨ s.clock.state = .halted ∧ state = 4 ∧ trigger = 0xFF ∧ target = 0) →
    exec .readClock s = .next { s with
      link := s.link.answer (.ok (state :: bytes32 s.clock.count ++ trigger :: bytes32 target)) }

/-- The end of a halt at its target below the limit, HALTED with reason BOUNDARY, and the limit in RUNNING and HALTING
alike, HALTED with reason LIMIT; the creation time is the count (R11, R13). -/
def Obligations.HaltEndAndLimit : Prop :=
  (∀ s : State, s.pins.resetLow = false → s.clock.state = .halting s.clock.count → s.clock.count ≠ 0xFFFFFFFF →
    exec .haltEnd s = .next { s with
      clock := ⟨.halted, s.clock.count⟩
      session := s.session.store s.clock.count (.clockState .halted .boundary) })
  ∧ (∀ s : State, s.pins.resetLow = false →
    (s.clock.state = .running ∨ ∃ target, s.clock.state = .halting target) → s.clock.count = 0xFFFFFFFF →
    exec .clockLimit s = .next { s with
      clock := ⟨.halted, 0xFFFFFFFF⟩
      session := s.session.store 0xFFFFFFFF (.clockState .halted .limit) })

/-- A tick instant with nothing due: the count is one up in RUNNING and HALTING and stands still in IDLE, ARMED and HALTED
(R1), the gates have their new samples (R22), and nothing else changes. In every state the steps due are taken first, each
by its own command, in the order of `dueSteps`, and the gap is judged; then the divider and a counting clock go on by one
and the levels are those sampled. That the steps due at one instant are taken before the next, and their order, are the
model's reading (log entry 2); when the gap is judged, and LAPSED, are its choice (log entry 13); and so is `openChoice`,
which says that no reply waits at a free transmitter (log entry 20). -/
def Obligations.TickCountsAndSamples : Prop :=
  (∀ (s : State) (levels : Byte), s.pins.resetLow = false → s.NothingDue →
    exec (.tickInstant levels) s = .next { s with
      clock := match s.clock.state with
        | .running | .halting _ => ⟨s.clock.state, s.clock.count + 1⟩
        | .idle | .armed _ | .halted => s.clock
      pins := ⟨false, levels, s.pins.levels⟩
      instant := s.instant + 1
      link := { s.link with
        openChoice := decide (s.link.transmitter = .free ∧ s.link.shortReply = none
          ∧ ∀ e ∈ s.link.buffer, e.readyReply = none) } })
  ∧ ∀ (s : State) (levels : Byte), s.pins.resetLow = false → ∃ u r dropped, runAll dueSteps s = some u
    ∧ u.link.GapJudged s.instant r dropped
    ∧ exec (.tickInstant levels) s = .next { u with
      clock := match u.clock.state with
        | .running | .halting _ => ⟨u.clock.state, u.clock.count + 1⟩
        | .idle | .armed _ | .halted => u.clock
      pins := ⟨false, levels, s.pins.levels⟩
      instant := s.instant + 1
      link := { u.link with
        receiver := r
        badFrames := if dropped = true then u.link.badFrames.saturatingSucc else u.link.badFrames
        openChoice := decide (u.link.transmitter = .free ∧ u.link.shortReply = none
          ∧ ∀ e ∈ u.link.buffer, e.readyReply = none) } }

/-! ## The Crossing Queue and the take -/

/-- MANUAL CROSSING with its checks in their order (R39): IDLE or ARMED refused WRONG_STATE; a time above the count,
BAD_VALUE; 32 crossings held, QUEUE_FULL; a gate above 7 is refused BAD_VALUE before them, and a refusal changes nothing.
Else the crossing is appended with source MANUAL and the next id, reported with raw reporting, and the reply carries its id
(R40). That no deadline is examined at the append is the model's choice between R42 and R100 (log entry 23). -/
def Obligations.ManualCrossingAppends : Prop :=
  ∀ (s : State) (tag b b3 b2 b1 b0 : Byte) (t : Tick), s.session.state ≠ .closed →
    s.NextIs 0x38 tag [b, b3, b2, b1, b0] → t = word32 b3 b2 b1 b0 →
    (7 < b.toNat → exec .manualCrossing s = .next { s with link := s.link.answer (.refuse .badValue) })
    ∧ ∀ g : Gate, b = BitVec.ofNat 8 g →
      (s.clock.state.mode = .idle ∨ s.clock.state.mode = .armed →
        exec .manualCrossing s = .next { s with link := s.link.answer (.refuse .wrongState) })
      ∧ (s.clock.state.mode ≠ .idle → s.clock.state.mode ≠ .armed →
        (s.clock.count < t →
          exec .manualCrossing s = .next { s with link := s.link.answer (.refuse .badValue) })
        ∧ (t ≤ s.clock.count → 32 ≤ s.crossings.records.length →
          exec .manualCrossing s = .next { s with link := s.link.answer (.refuse .queueFull) })
        ∧ (t ≤ s.clock.count → s.crossings.records.length < 32 →
          exec .manualCrossing s = .next { s with
            crossings := ⟨s.crossings.records ++ [⟨s.crossings.nextId, g, t, .manual⟩], s.crossings.nextId + 1⟩
            session :=
              if (s.gate g).config.rawReport then
                s.session.store s.clock.count (.crossing ⟨s.crossings.nextId, g, t, .manual⟩)
              else s.session
            link := s.link.answer (.ok (bytes32 s.crossings.nextId)) }))

/-- A taken crossing that goes to no run leaves the Crossing Queue and is filed on the Unassigned List: NO_STEP without a
course or a step at its gate, NO_RUN when the steps at its gate have empty queues, TOO_SOON when heads stand there and none
is eligible (R91, R93, R94). With 16 entries held the oldest is first removed and reported dropped (R103). The deadlines are
then examined (R100). -/
def Obligations.TakeFilesCrossing : Prop :=
  ∀ (s u : State) (c : Crossing) (rest : List Crossing) (why : FilingReason), s.pins.resetLow = false →
    s.tracker.assignment = .taking → s.crossings.records = c :: rest → s.HeadsInTime c →
    (why = .noStep ∧ (∀ course, s.tracker.course = some course → ∀ k, course.gateOf k ≠ some c.gate)
      ∨ why = .noRun ∧ (∃ course, s.tracker.course = some course ∧ (∃ k, course.gateOf k = some c.gate)
          ∧ ∀ k, course.gateOf k = some c.gate → s.queue k = [])
      ∨ why = .tooSoon ∧ ∃ course, s.tracker.course = some course
          ∧ (∃ k, course.gateOf k = some c.gate ∧ s.queue k ≠ [])
          ∧ ∀ k i, course.gateOf k = some c.gate → (s.queue k).head? = some i → s.TooSoonAt course c.time k i) →
    (s.tracker.unassigned.length < 16 →
      u = { s with
        crossings := ⟨rest, s.crossings.nextId⟩
        tracker := { s.tracker with unassigned := s.tracker.unassigned ++ [⟨c, why⟩] }
        session := s.session.store s.clock.count (.unassigned c.id c.gate c.time why) } →
      exec .take s = .next u.examineDeadlines)
    ∧ (∀ oldest kept, s.tracker.unassigned = oldest :: kept → 16 ≤ s.tracker.unassigned.length →
      u = { s with
        crossings := ⟨rest, s.crossings.nextId⟩
        tracker := { s.tracker with unassigned := kept ++ [⟨c, why⟩] }
        session := (s.session.store s.clock.count
            (.unassignedDropped oldest.crossing.id oldest.crossing.gate)).store s.clock.count
              (.unassigned c.id c.gate c.time why) } →
      exec .take s = .next u.examineDeadlines)

/-- At a take the head of the start queue wins when no ON_COURSE head is eligible (R93, R95). Its run takes the step-0 split
made from the crossing, host-assigned no, is ON_COURSE with the deadline of R73, goes from the start queue to the tail of
the step-1 queue, and RUN STARTED is queued (R69); the deadlines are then examined (R100). -/
def Obligations.TakeStartsRun : Prop :=
  ∀ (s u : State) (c : Crossing) (rest : List Crossing) (course : Course) (i : Slot) (q0 q1 : List Slot)
    (qs : List (List Slot)) (r : Run) (d : Option Tick), s.pins.resetLow = false →
    s.tracker.assignment = .taking → s.crossings.records = c :: rest → s.HeadsInTime c →
    s.tracker.course = some course → course.gateOf 0 = some c.gate →
    s.tracker.queues = (i :: q0) :: q1 :: qs → i ∉ q0 → i ∉ q1 → (∀ q ∈ qs, i ∉ q) →
    s.run i = some r → r.state = .staged →
    (∀ k j, 0 < k → course.gateOf k = some c.gate → (s.queue k).head? = some j → s.TooSoonAt course c.time k j) →
    (course.maxCourseTime = 0 ∧ d = none
      ∨ course.maxCourseTime ≠ 0 ∧ ∃ e : Tick, d = some e
        ∧ e.toNat = min (c.time.toNat + 10000 * course.maxCourseTime.toNat) 4294967295) →
    u = { s with
      crossings := ⟨rest, s.crossings.nextId⟩
      tracker := { s.tracker with
        runs := s.tracker.runs.set i (some { r with
          state := .onCourse
          splits := [⟨0, .crossing c.gate c.id c.source, c.time, false⟩]
          deadline := d })
        queues := q0 :: (q1 ++ [i]) :: qs }
      session := s.session.store s.clock.count (.runStarted r.number i c.time
        (match c.source with | .sensor => .sensor | .manual => .manual)) } →
    exec .take s = .next u.examineDeadlines

/-- At a take the crossing goes to the eligible ON_COURSE head with the earliest last split time, and of equal ones to that
at the higher step (R93, R95). The split is added for the awaited step with elapsed and segment times of R80: before the
last step the run moves to the tail of the next queue and SPLIT is queued (R70); at the last it is FINISHED, in no queue,
and SPLIT and RUN ENDED are queued (R71). The deadlines are then examined (R100). -/
def Obligations.TakeAddsSplit : Prop :=
  ∀ (s u : State) (c : Crossing) (rest : List Crossing) (course : Course) (k : Nat) (i : Slot) (q : List Slot)
    (qs : List (List Slot)) (r : Run) (start last : Tick), s.pins.resetLow = false →
    s.tracker.assignment = .taking → s.crossings.records = c :: rest → s.HeadsInTime c →
    s.tracker.course = some course → 0 < k → course.gateOf k = some c.gate →
    s.queue k = i :: q → i ∉ q → (∀ k', k' ≠ k → i ∉ s.queue k') →
    s.run i = some r → r.state = .onCourse → r.splits.length = k → r.startTime = some start →
    r.lastTime = some last → last.toNat + course.intervalTicks k ≤ c.time.toNat →
    (∀ k' j, 0 < k' → k' ≠ k → course.gateOf k' = some c.gate → (s.queue k').head? = some j →
      s.TooSoonAt course c.time k' j
      ∨ ∃ r' last', s.run j = some r' ∧ r'.lastTime = some last' ∧ (last < last' ∨ last = last' ∧ k' < k)) →
    qs.length = s.tracker.queues.length →
    (∀ k', k' < qs.length → qs.getD k' [] =
      if k' = k then q else if k' = k + 1 ∧ k + 1 < r.stepCount then s.queue k' ++ [i] else s.queue k') →
    (k + 1 < r.stepCount →
      u = { s with
        crossings := ⟨rest, s.crossings.nextId⟩
        tracker := { s.tracker with
          runs := s.tracker.runs.set i (some { r with
            splits := r.splits ++ [⟨k, .crossing c.gate c.id c.source, c.time, false⟩] })
          queues := qs }
        session := s.session.store s.clock.count
          (.split r.number k c.gate c.id c.time (c.time - start) (c.time - last) false) } →
      exec .take s = .next u.examineDeadlines)
    ∧ (r.stepCount ≤ k + 1 →
      u = { s with
        crossings := ⟨rest, s.crossings.nextId⟩
        tracker := { s.tracker with
          runs := s.tracker.runs.set i (some { r with
            splits := r.splits ++ [⟨k, .crossing c.gate c.id c.source, c.time, false⟩]
            state := .finished
            endReason := some .finished })
          queues := qs }
        session := (s.session.store s.clock.count
          (.split r.number k c.gate c.id c.time (c.time - start) (c.time - last) false)).store s.clock.count
            (.runEnded r.number .finished (some (c.time - start))) } →
      exec .take s = .next u.examineDeadlines)

/-- Before a crossing is judged, the heads at its candidate steps whose deadline is earlier than its time end over time, one
after another, in ascending order of step, until each head is in time or the queue is empty; the take is then that of the
state so left (R91, R92). -/
def Obligations.OverdueHeadsEndFirst : Prop :=
  ∀ (s u : State) (c : Crossing) (rest : List Crossing) (course : Course) (late : Slot → Bool),
    s.TrackerLaw → s.pins.resetLow = false → s.tracker.assignment = .taking → s.crossings.records = c :: rest →
    s.tracker.course = some course →
    (∀ i, late i = true ↔
      ∃ r d, s.run i = some r ∧ r.state = .onCourse ∧ r.deadline = some d ∧ d < c.time) →
    s.EndedOverTime u (((List.range course.steps.length).filter fun k => course.gateOf k == some c.gate).flatMap
      fun k => (s.queue k).takeWhile late) →
    exec .take s = exec .take u

/-- An examination of the deadlines ends over time every ON_COURSE run whose deadline the count has reached while no
crossing timed at or before it waits, from wherever it stands in its queue, in ascending order of step and within one queue
from head to tail; every other run stays (R72, R100). -/
def Obligations.DeadlinesExpire : Prop :=
  ∀ (s u : State) (due : Slot → Bool), s.pins.resetLow = false →
    (∀ i, due i = true ↔ ∃ r d, s.run i = some r ∧ r.state = .onCourse ∧ r.deadline = some d
      ∧ d ≤ s.clock.count ∧ ∀ c ∈ s.crossings.records, d < c.time) →
    s.EndedOverTime u (s.tracker.queues.flatten.filter due) →
    exec .deadlineExpiry s = .next u ∧ s.examineDeadlines = u

/-- The clock-start event starts the STAGED runs of a GROUP course at its start count and then examines the deadlines; with
no course, on a GATE course, or with no run staged, it changes nothing (R99, R100). START GROUP with its checks in their
order: no course or a GATE course, a clock that is not RUNNING or HALTING, and no run STAGED are refused WRONG_STATE, and a
start time above the count BAD_VALUE. Else every STAGED run starts at the time carried, or at the count when it is absent,
the deadlines are examined after all the starts, and the reply carries the time and the number of runs (R98, R100). A
presence byte that is neither 0 nor 1 is refused BAD_VALUE (R163). -/
def Obligations.GroupsStart : Prop :=
  (∀ (s u : State) (course : Course) (t : Tick), s.TrackerLaw → s.tracker.course = some course → course.mode = .group →
    s.queue 0 ≠ [] → s.GroupStarted u course t → s.clockStartEvent t = u.examineDeadlines)
  ∧ (∀ (s : State) (t : Tick),
    (∀ course, s.tracker.course = some course → course.mode = .gate ∨ s.queue 0 = []) → s.clockStartEvent t = s)
  ∧ ∀ (s : State) (tag p b3 b2 b1 b0 : Byte) (t : Tick), s.session.state ≠ .closed →
    s.NextIs 0x2A tag [p, b3, b2, b1, b0] → t = (if p = 0 then s.clock.count else word32 b3 b2 b1 b0) →
    (1 < p.toNat → exec .startGroup s = .next { s with link := s.link.answer (.refuse .badValue) })
    ∧ (p.toNat ≤ 1 →
      ((∀ course, s.tracker.course = some course → course.mode = .gate ∨ s.clock.state.counting = false
          ∨ s.queue 0 = []) →
        exec .startGroup s = .next { s with link := s.link.answer (.refuse .wrongState) })
      ∧ ∀ course, s.tracker.course = some course → course.mode = .group → s.clock.state.counting = true →
        s.queue 0 ≠ [] →
        (s.clock.count < t → exec .startGroup s = .next { s with link := s.link.answer (.refuse .badValue) })
        ∧ ∀ u, s.TrackerLaw → t ≤ s.clock.count → s.GroupStarted u course t →
          exec .startGroup s = .next { u.examineDeadlines with
            link := s.link.answer (.ok (bytes32 t ++ [BitVec.ofNat 8 (s.queue 0).length])) })

/-! ## The course and the runs -/

/-- HOLD ASSIGNMENT makes the assignment state HELD in an OPEN session, and is refused NOT_OPEN in SILENT with no change
(R87); RELEASE ASSIGNMENT makes it TAKING (R88). Nothing else changes. While assignment is HELD, and on an empty Crossing
Queue, no crossing is taken: nothing changes (R42). -/
def Obligations.HoldStopsTheTakes : Prop :=
  (∀ (s : State) (tag : Byte), s.NextIs 0x30 tag [] →
    (s.session.state = .opened →
      exec .holdAssignment s = .next { s with
        tracker := { s.tracker with assignment := .held }
        link := s.link.answer .ok })
    ∧ (s.session.state = .silent →
      exec .holdAssignment s = .next { s with link := s.link.answer (.refuse .notOpen) }))
  ∧ (∀ (s : State) (tag : Byte), s.session.state ≠ .closed → s.NextIs 0x31 tag [] →
    exec .releaseAssignment s = .next { s with
      tracker := { s.tracker with assignment := .taking }
      link := s.link.answer .ok })
  ∧ ∀ s : State, s.tracker.assignment = .held ∨ s.crossings.records = [] → exec .take s = .next s

/-- READ QUEUE: NOT_OPEN in a CLOSED session and BAD_VALUE for a step above 11; then NO_COURSE without a course and
BAD_VALUE for a step not below the step count. Otherwise OK with the step, the number of runs in its queue and their run
numbers from head to tail, and nothing changes (R105). READ UNASSIGNED: NOT_OPEN in a CLOSED session; otherwise OK with the
number of entries and every entry from oldest to newest, each with its crossing id, gate, time, source and reason, and
nothing changes (R106). -/
def Obligations.ReadQueueAndUnassigned : Prop :=
  (∀ (s : State) (tag b : Byte), s.NextIs 0x36 tag [b] →
    (s.session.state = .closed →
      exec .readQueue s = .next { s with link := s.link.answer (.refuse .notOpen) })
    ∧ (s.session.state ≠ .closed →
      (11 < b.toNat → exec .readQueue s = .next { s with link := s.link.answer (.refuse .badValue) })
      ∧ (b.toNat ≤ 11 →
        (s.tracker.course = none →
          exec .readQueue s = .next { s with link := s.link.answer (.refuse .noCourse) })
        ∧ ∀ course, s.tracker.course = some course →
          (course.steps.length ≤ b.toNat →
            exec .readQueue s = .next { s with link := s.link.answer (.refuse .badValue) })
          ∧ ∀ rs : List Run, b.toNat < course.steps.length → (s.queue b.toNat).map s.run = rs.map some →
            exec .readQueue s = .next { s with
              link := s.link.answer (.ok
                (b :: BitVec.ofNat 8 rs.length :: rs.flatMap fun r => bytes16 r.number)) })))
  ∧ ∀ (s : State) (tag : Byte), s.NextIs 0x37 tag [] →
    (s.session.state = .closed →
      exec .readUnassigned s = .next { s with link := s.link.answer (.refuse .notOpen) })
    ∧ (s.session.state ≠ .closed →
      exec .readUnassigned s = .next { s with
        link := s.link.answer (.ok
          (BitVec.ofNat 8 s.tracker.unassigned.length :: s.tracker.unassigned.flatMap fun e =>
            bytes32 e.crossing.id ++ [BitVec.ofNat 8 e.crossing.gate] ++ bytes32 e.crossing.time
            ++ [match e.crossing.source with | .sensor => 0 | .manual => 1,
                match e.reason with | .noStep => 1 | .noRun => 2 | .tooSoon => 3 | .voided => 4])) })

/-- SET COURSE reads back what GET COURSE writes: the bytes of any course with a number, 2 to 12 steps, a gate and interval
at every later step and, at step 0, a gate exactly on a GATE course and no interval, parse to that course (R46, R52, R56).
-/
def Obligations.CourseBytesRoundTrip : Prop :=
  ∀ c : Course, c.Lawful → c.number ≠ 0 →
    (∀ k st, c.steps[k]? = some st → (st.minInterval.isSome = true ↔ k ≠ 0)) →
    parseSetCourse (coursePayload c) = some c

/-- SET COURSE of a course (R53, R54): COURSE_IN_USE while any run is STAGED or ON_COURSE, or when a run carries its number
and it is not the current course in all its fields. Otherwise it becomes the course, with one empty queue for each step, and
nothing else changes. SET COURSE is refused BAD_VALUE, with no change, for a course number 0, a start mode neither GATE nor
GROUP, a step count below 2 or above 12, a step 0 with a minimum interval, without a gate on a GATE course, with one on a
GROUP course or with a gate above 7, and a later step without a gate from 0 to 7 (R52). -/
def Obligations.SetCourseInstallsOrRefuses : Prop :=
  (∀ (s : State) (tag : Byte) (c : Course), s.session.state ≠ .closed → s.NextIs 0x20 tag (coursePayload c) →
    c.Lawful → c.number ≠ 0 → (∀ k st, c.steps[k]? = some st → (st.minInterval.isSome = true ↔ k ≠ 0)) →
    (((∃ i r, s.run i = some r ∧ (r.state = .staged ∨ r.state = .onCourse))
        ∨ (∃ i r, s.run i = some r ∧ r.courseNumber = c.number) ∧ s.tracker.course ≠ some c) →
      exec .setCourse s = .next { s with link := s.link.answer (.refuse .courseInUse) })
    ∧ ((∀ i r, s.run i = some r → r.state ≠ .staged ∧ r.state ≠ .onCourse) →
      ((∀ i r, s.run i = some r → r.courseNumber ≠ c.number) ∨ s.tracker.course = some c) →
      exec .setCourse s = .next { s with
        tracker := { s.tracker with course := some c, queues := List.replicate c.steps.length [] }
        link := s.link.answer .ok }))
  ∧ ∀ (s : State) (tag number m n hi lo : Byte) (steps : List (Byte × Byte × Byte)), s.session.state ≠ .closed →
    steps.length = n.toNat →
    s.NextIs 0x20 tag ([number, m, n, hi, lo] ++ steps.flatMap fun e => [e.1, e.2.1, e.2.2]) →
    (number = 0 ∨ 1 < m.toNat ∨ n.toNat < 2 ∨ 12 < n.toNat
      ∨ (∃ e, steps[0]? = some e
        ∧ (e.2 ≠ (0, 0) ∨ m = 0 ∧ 7 < e.1.toNat ∨ m = 1 ∧ e.1 ≠ 0xFF))
      ∨ ∃ k e, 0 < k ∧ steps[k]? = some e ∧ 7 < e.1.toNat) →
    exec .setCourse s = .next { s with link := s.link.answer (.refuse .badValue) }

/-- GET COURSE (R56): NO_COURSE without a course; otherwise OK with the course number, start mode, step count, maximum
course time, and for each step its gate, 0xFF when absent, and its minimum interval, 0 when absent (R166). Nothing changes.
READ RUN (R79): the number 0 is refused BAD_VALUE and one held by no slot NOT_FOUND; otherwise OK with the record and, for
each split in step order, its step, descriptor, crossing id, time, elapsed time since the step-0 split and segment time
since the split before it, both 0 for step 0 (R80). Nothing changes. LIST RUNS (R81): OK with the number of non-free slots
and one entry for each in ascending slot order, with its slot, run number, state and number of splits. Nothing changes. -/
def Obligations.ReadCourseAndRuns : Prop :=
  (∀ (s : State) (tag : Byte), s.session.state ≠ .closed → s.NextIs 0x21 tag [] →
    (s.tracker.course = none →
      exec .getCourse s = .next { s with link := s.link.answer (.refuse .noCourse) })
    ∧ ∀ c, s.tracker.course = some c →
      exec .getCourse s = .next { s with
        link := s.link.answer (.ok
          ([c.number, match c.mode with | .gate => 0 | .group => 1, BitVec.ofNat 8 c.steps.length]
          ++ bytes16 c.maxCourseTime
          ++ c.steps.flatMap fun st =>
            (match st.gate with | some g => BitVec.ofNat 8 g | none => 0xFF)
              :: bytes16 (match st.minInterval with | some m => m | none => 0))) })
  ∧ (∀ (s : State) (tag hi lo : Byte) (n : Word), s.session.state ≠ .closed → n = word16 hi lo →
    s.NextIs 0x2B tag [hi, lo] → s.NumbersDistinct →
    (n = 0 → exec .readRun s = .next { s with link := s.link.answer (.refuse .badValue) })
    ∧ (n ≠ 0 → (∀ i r, s.run i = some r → r.number ≠ n) →
      exec .readRun s = .next { s with link := s.link.answer (.refuse .notFound) })
    ∧ ∀ i r, n ≠ 0 → s.run i = some r → r.number = n →
      exec .readRun s = .next { s with
        link := s.link.answer (.ok
          ([BitVec.ofNat 8 i] ++ bytes16 n
          ++ [match r.state with
              | .staged => 1 | .onCourse => 2 | .finished => 3 | .notFinished => 4 | .withdrawn => 5,
            r.courseNumber, BitVec.ofNat 8 r.stepCount, if r.deadline.isSome then 1 else 0]
          ++ bytes32 (r.deadline.getD 0)
          ++ [match r.endReason with
              | none => 0 | some .finished => 1 | some .overTime => 2 | some .withdrawn => 3,
            if r.corrected then 1 else 0, BitVec.ofNat 8 r.splits.length]
          ++ (List.range r.splits.length).flatMap fun k =>
            let time (j : Nat) : Tick := (r.splits[j]?.map (·.time)).getD 0
            (r.splits[k]?.elim [] fun sp =>
              [BitVec.ofNat 8 sp.step,
                (match sp.origin with
                  | .crossing g _ .sensor => 8 + BitVec.ofNat 8 g
                  | .crossing g _ .manual => 16 + 8 + BitVec.ofNat 8 g
                  | .group => 32) + (if sp.hostAssigned then 64 else 0)]
              ++ bytes32 (match sp.origin with | .crossing _ id _ => id | .group => 0)
              ++ bytes32 sp.time ++ bytes32 (sp.time - time 0) ++ bytes32 (sp.time - time (k - 1))))) })
  ∧ ∀ (s : State) (tag : Byte), s.session.state ≠ .closed → s.NextIs 0x2D tag [] →
    exec .listRuns s = .next { s with
      link := s.link.answer (.ok
        (BitVec.ofNat 8 ((List.finRange 24).filterMap s.run).length
        :: (List.finRange 24).flatMap fun i =>
          match s.run i with
          | some r => [BitVec.ofNat 8 i] ++ bytes16 r.number
              ++ [match r.state with
                | .staged => 1 | .onCourse => 2 | .finished => 3 | .notFinished => 4 | .withdrawn => 5,
                BitVec.ofNat 8 r.splits.length]
          | none => [])) }

/-- STAGE RUN with its checks in their order: a run number 0 is refused BAD_VALUE; no course, NO_COURSE; the number held by
any slot, DUPLICATE; no FREE slot, TABLE_FULL. Else the FREE slot with the lowest number takes a STAGED record, the run
joins the tail of the start queue, and the reply carries the slot; no report is queued (R67). -/
def Obligations.StageRunStages : Prop :=
  ∀ (s : State) (tag hi lo : Byte) (n : Word), s.session.state ≠ .closed → s.NextIs 0x28 tag [hi, lo] →
    n = word16 hi lo →
    (n = 0 → exec .stageRun s = .next { s with link := s.link.answer (.refuse .badValue) })
    ∧ (n ≠ 0 → s.tracker.course = none →
      exec .stageRun s = .next { s with link := s.link.answer (.refuse .noCourse) })
    ∧ (n ≠ 0 → ∀ course, s.tracker.course = some course →
      ((∃ i r, s.run i = some r ∧ r.number = n) →
        exec .stageRun s = .next { s with link := s.link.answer (.refuse .duplicate) })
      ∧ ((∀ i r, s.run i = some r → r.number ≠ n) →
        ((∀ i, s.run i ≠ none) →
          exec .stageRun s = .next { s with link := s.link.answer (.refuse .tableFull) })
        ∧ ∀ i : Slot, s.run i = none → (∀ j : Slot, j < i → s.run j ≠ none) →
          ∀ q0 qs, s.tracker.queues = q0 :: qs →
          exec .stageRun s = .next { s with
            tracker := { s.tracker with
              runs := s.tracker.runs.set i (some ⟨n, .staged, course.number, course.steps.length, [], none, none, false⟩)
              queues := (q0 ++ [i]) :: qs }
            link := s.link.answer (.ok [BitVec.ofNat 8 i]) }))

/-- WITHDRAW RUN (R76): an active run leaves its queue and is WITHDRAWN with end reason WITHDRAWN, and RUN ENDED is queued
with no elapsed time; a run in an end state is refused WRONG_STATE. RELEASE RUN (R78): the slot of a run in an end state
becomes FREE, with no report; an active run is refused WRONG_STATE. In both a number held by no slot is refused NOT_FOUND
and the number 0 BAD_VALUE. -/
def Obligations.WithdrawAndReleaseRun : Prop :=
  ∀ (s : State) (tag hi lo : Byte) (n : Word), s.session.state ≠ .closed → n = word16 hi lo → s.NumbersDistinct →
    (s.NextIs 0x29 tag [hi, lo] →
      (n = 0 → exec .withdrawRun s = .next { s with link := s.link.answer (.refuse .badValue) })
      ∧ (n ≠ 0 → (∀ i r, s.run i = some r → r.number ≠ n) →
        exec .withdrawRun s = .next { s with link := s.link.answer (.refuse .notFound) })
      ∧ ∀ i r, n ≠ 0 → s.run i = some r → r.number = n →
        (r.state = .finished ∨ r.state = .notFinished ∨ r.state = .withdrawn →
          exec .withdrawRun s = .next { s with link := s.link.answer (.refuse .wrongState) })
        ∧ (r.state = .staged ∨ r.state = .onCourse →
          exec .withdrawRun s = .next { s with
            tracker := { s.tracker with
              runs := s.tracker.runs.set i (some { r with state := .withdrawn, endReason := some .withdrawn })
              queues := s.tracker.queues.map fun q => q.filter fun j => j ≠ i }
            session := s.session.store s.clock.count (.runEnded n .withdrawn none)
            link := s.link.answer .ok }))
    ∧ (s.NextIs 0x2C tag [hi, lo] →
      (n = 0 → exec .releaseRun s = .next { s with link := s.link.answer (.refuse .badValue) })
      ∧ (n ≠ 0 → (∀ i r, s.run i = some r → r.number ≠ n) →
        exec .releaseRun s = .next { s with link := s.link.answer (.refuse .notFound) })
      ∧ ∀ i r, n ≠ 0 → s.run i = some r → r.number = n →
        (r.state = .staged ∨ r.state = .onCourse →
          exec .releaseRun s = .next { s with link := s.link.answer (.refuse .wrongState) })
        ∧ (r.state = .finished ∨ r.state = .notFinished ∨ r.state = .withdrawn →
          exec .releaseRun s = .next { s with
            tracker := { s.tracker with runs := s.tracker.runs.set i none }
            link := s.link.answer .ok }))

/-! ## Corrections -/

/-- SWAP RUNS with its checks in their order: a step above 11 or a run number 0 is refused BAD_VALUE (R107); then no course,
NO_COURSE; a step not below the step count, BAD_VALUE; twice the same number, BAD_VALUE; a number held by no slot or by a
run that is not in that step's queue, NOT_FOUND (R109). Else the two runs exchange their places in the queue, both records
are marked corrected, and nothing else changes (R110). -/
def Obligations.SwapRunsExchanges : Prop :=
  ∀ (s : State) (tag k a1 a0 b1 b0 : Byte) (a b : Word), s.session.state ≠ .closed →
    s.NextIs 0x32 tag [k, a1, a0, b1, b0] → a = word16 a1 a0 → b = word16 b1 b0 → s.NumbersDistinct →
    (11 < k.toNat ∨ a = 0 ∨ b = 0 →
      exec .swapRuns s = .next { s with link := s.link.answer (.refuse .badValue) })
    ∧ (k.toNat ≤ 11 → a ≠ 0 → b ≠ 0 →
      (s.tracker.course = none →
        exec .swapRuns s = .next { s with link := s.link.answer (.refuse .noCourse) })
      ∧ ∀ course, s.tracker.course = some course →
        (course.steps.length ≤ k.toNat ∨ a = b →
          exec .swapRuns s = .next { s with link := s.link.answer (.refuse .badValue) })
        ∧ (k.toNat < course.steps.length → a ≠ b →
          ((∀ i r, s.run i = some r → r.number = a → i ∉ s.queue k.toNat)
              ∨ (∀ j r, s.run j = some r → r.number = b → j ∉ s.queue k.toNat) →
            exec .swapRuns s = .next { s with link := s.link.answer (.refuse .notFound) })
          ∧ ∀ (i j : Slot) (r r' : Run), s.run i = some r → r.number = a → i ∈ s.queue k.toNat →
            s.run j = some r' → r'.number = b → j ∈ s.queue k.toNat →
            exec .swapRuns s = .next { s with
              tracker := { s.tracker with
                runs := (s.tracker.runs.set i (some { r with corrected := true })).set j
                  (some { r' with corrected := true })
                queues := s.tracker.queues.set k.toNat ((s.queue k.toNat).map fun x =>
                  if x = i then j else if x = j then i else x) }
              link := s.link.answer .ok }))

/-- ASSIGN CROSSING refuses, in the order of its checks (R112): a run number 0, BAD_VALUE (R107); no entry with the id,
NOT_FOUND; a run number held by no slot, NOT_FOUND; a run that is neither ON_COURSE nor STAGED on a GATE course,
WRONG_STATE; a crossing of another gate than that of the awaited step, BAD_VALUE; for an ON_COURSE run a time before its
last split, OUT_OF_ORDER, and one after its deadline, DEADLINE_PASSED. The entry meant is the oldest with the id (R104).
VOID SPLIT refuses, in the order of its checks (R116): a run number 0, BAD_VALUE (R107); a number held by no slot,
NOT_FOUND; a run STAGED, NOT_FINISHED or WITHDRAWN, WRONG_STATE; a FINISHED run whose course is not the current one,
WRONG_STATE; a FINISHED run whose deadline is not later than the count, DEADLINE_PASSED. -/
def Obligations.CorrectionsRefuse : Prop :=
  (∀ (s : State) (tag i3 i2 i1 i0 hi lo : Byte) (id : Tick) (n : Word), s.session.state ≠ .closed →
    s.NextIs 0x33 tag [i3, i2, i1, i0, hi, lo] → id = word32 i3 i2 i1 i0 → n = word16 hi lo → s.NumbersDistinct →
    (n = 0 → exec .assignCrossing s = .next { s with link := s.link.answer (.refuse .badValue) })
    ∧ (n ≠ 0 → (∀ e ∈ s.tracker.unassigned, e.crossing.id ≠ id) ∨ (∀ i r, s.run i = some r → r.number ≠ n) →
      exec .assignCrossing s = .next { s with link := s.link.answer (.refuse .notFound) })
    ∧ ∀ older c why newer i r, n ≠ 0 → s.tracker.unassigned = older ++ ⟨c, why⟩ :: newer → c.id = id →
      (∀ e ∈ older, e.crossing.id ≠ id) → s.run i = some r → r.number = n →
      (r.state ≠ .onCourse →
        (r.state = .staged → ∀ course, s.tracker.course = some course → course.mode = .group) →
        (r.state = .staged → s.tracker.course ≠ none) →
        exec .assignCrossing s = .next { s with link := s.link.answer (.refuse .wrongState) })
      ∧ ∀ course, s.tracker.course = some course →
        (r.state = .onCourse ∨ r.state = .staged ∧ course.mode = .gate) →
        (course.gateOf r.splits.length ≠ some c.gate →
          exec .assignCrossing s = .next { s with link := s.link.answer (.refuse .badValue) })
        ∧ (course.gateOf r.splits.length = some c.gate → r.state = .onCourse →
          ∀ last, r.lastTime = some last →
          (c.time < last →
            exec .assignCrossing s = .next { s with link := s.link.answer (.refuse .outOfOrder) })
          ∧ ∀ d, last ≤ c.time → r.deadline = some d → d < c.time →
            exec .assignCrossing s = .next { s with link := s.link.answer (.refuse .deadlinePassed) }))
  ∧ ∀ (s : State) (tag hi lo : Byte) (n : Word), s.session.state ≠ .closed →
    s.NextIs 0x34 tag [hi, lo] → n = word16 hi lo → s.NumbersDistinct →
    (n = 0 → exec .voidSplit s = .next { s with link := s.link.answer (.refuse .badValue) })
    ∧ (n ≠ 0 → (∀ i r, s.run i = some r → r.number ≠ n) →
      exec .voidSplit s = .next { s with link := s.link.answer (.refuse .notFound) })
    ∧ ∀ i r, n ≠ 0 → s.run i = some r → r.number = n →
      (r.state = .staged ∨ r.state = .notFinished ∨ r.state = .withdrawn
          ∨ r.state = .finished ∧ (∀ course, s.tracker.course = some course → course.number ≠ r.courseNumber) →
        exec .voidSplit s = .next { s with link := s.link.answer (.refuse .wrongState) })
      ∧ ∀ course d, r.state = .finished → s.tracker.course = some course → course.number = r.courseNumber →
        r.deadline = some d → d ≤ s.clock.count →
        exec .voidSplit s = .next { s with link := s.link.answer (.refuse .deadlinePassed) }

/-- An ASSIGN CROSSING that passes its checks takes the entry from the Unassigned List and advances the run from wherever it
stands, with host-assigned yes and corrected yes: a STAGED run starts, and the deadlines are then examined (R69, R114); an
ON_COURSE run takes a split and moves to the tail of the next queue (R70), or at the last step is FINISHED (R71). The reply
carries the step of the split (R113). That the examination after a start ends every run that is due, and not only the run
started, is the model's choice (log entry 21). -/
def Obligations.AssignCrossingAdvances : Prop :=
  ∀ (s u : State) (tag i3 i2 i1 i0 hi lo : Byte) (n : Word) (older newer : List UnassignedEntry) (c : Crossing)
    (why : FilingReason) (i : Slot) (r r' : Run) (course : Course) (k : Nat) (qs : List (List Slot)) (l : LinkController)
    (ss : Session), s.session.state ≠ .closed →
    s.NextIs 0x33 tag [i3, i2, i1, i0, hi, lo] → c.id = word32 i3 i2 i1 i0 → n = word16 hi lo → n ≠ 0 →
    s.NumbersDistinct → s.tracker.unassigned = older ++ ⟨c, why⟩ :: newer → (∀ e ∈ older, e.crossing.id ≠ c.id) →
    s.run i = some r → r.number = n → s.tracker.course = some course → r.splits.length = k →
    course.gateOf k = some c.gate → qs.length = s.tracker.queues.length →
    (∀ k', k' < qs.length → qs.getD k' [] =
      (s.queue k').filter (fun j => j ≠ i) ++ if k' = k + 1 ∧ k + 1 < r.stepCount then [i] else []) →
    l = s.link.answer (.ok [BitVec.ofNat 8 k]) →
    u = { s with
      tracker := { s.tracker with
        runs := s.tracker.runs.set i (some r'), queues := qs, unassigned := older ++ newer }
      session := ss } →
    (r.state = .staged → course.mode = .gate → k = 0 → 1 < r.stepCount →
      r' = { r with
        state := .onCourse
        splits := [⟨0, .crossing c.gate c.id c.source, c.time, true⟩]
        deadline := course.deadlineFrom c.time
        corrected := true } →
      ss = s.session.store s.clock.count (.runStarted n i c.time
        (match c.source with | .sensor => .sensor | .manual => .manual)) →
      exec .assignCrossing s = .next { u.examineDeadlines with link := l })
    ∧ ∀ start last, r.state = .onCourse → r.startTime = some start → r.lastTime = some last → last ≤ c.time →
      (∀ d, r.deadline = some d → c.time ≤ d) →
      (k + 1 < r.stepCount →
        r' = { r with
          splits := r.splits ++ [⟨k, .crossing c.gate c.id c.source, c.time, true⟩]
          corrected := true } →
        ss = s.session.store s.clock.count
          (.split n k c.gate c.id c.time (c.time - start) (c.time - last) true) →
        exec .assignCrossing s = .next { u with link := l })
      ∧ (r.stepCount ≤ k + 1 →
        r' = { r with
          splits := r.splits ++ [⟨k, .crossing c.gate c.id c.source, c.time, true⟩]
          state := .finished
          endReason := some .finished
          corrected := true } →
        ss = (s.session.store s.clock.count
          (.split n k c.gate c.id c.time (c.time - start) (c.time - last) true)).store s.clock.count
            (.runEnded n .finished (some (c.time - start))) →
        exec .assignCrossing s = .next { u with link := l })

/-- A VOID SPLIT that passes its checks removes the last split, at step j: the run goes to the head of the queue of step j,
is STAGED without a deadline for j = 0 and ON_COURSE with its deadline and no end reason otherwise, and is marked corrected;
a split made from a crossing files it VOIDED, dropping the oldest of 16 entries, and one made by a group start files
nothing. The reply carries j, and no other report is queued (R117, R118, R119). That no other run that is due ends in this
event, though R100 has deadlines examined where a run returns to ON_COURSE, is DEDUCED from R117 (log entry 21). -/
def Obligations.VoidSplitRemoves : Prop :=
  ∀ (s u v : State) (tag hi lo : Byte) (n : Word) (i : Slot) (r : Run) (front : List Split) (sp : Split) (j : Nat)
    (qs : List (List Slot)), s.session.state ≠ .closed →
    s.NextIs 0x34 tag [hi, lo] → n = word16 hi lo → n ≠ 0 → s.NumbersDistinct → s.run i = some r → r.number = n →
    r.splits = front ++ [sp] → j = front.length →
    (r.state = .onCourse
      ∨ r.state = .finished ∧ (∃ course, s.tracker.course = some course ∧ course.number = r.courseNumber)
        ∧ ∀ d, r.deadline = some d → s.clock.count < d) →
    qs.length = s.tracker.queues.length →
    (∀ k, k < qs.length → qs.getD k [] =
      (if k = j then [i] else []) ++ (s.queue k).filter fun x => x ≠ i) →
    u = { s with
      tracker := { s.tracker with
        queues := qs
        runs := s.tracker.runs.set i (some { r with
          splits := front
          state := if j = 0 then .staged else .onCourse
          deadline := if j = 0 then none else r.deadline
          endReason := none
          corrected := true }) } } →
    (match sp.origin with
      | .group => v = u
      | .crossing g id src =>
        match s.tracker.unassigned with
        | [] => v = { u with
            tracker := { u.tracker with unassigned := [⟨⟨id, g, sp.time, src⟩, .voided⟩] }
            session := s.session.store s.clock.count (.unassigned id g sp.time .voided) }
        | oldest :: kept =>
          if kept.length < 15 then v = { u with
            tracker := { u.tracker with unassigned := oldest :: kept ++ [⟨⟨id, g, sp.time, src⟩, .voided⟩] }
            session := s.session.store s.clock.count (.unassigned id g sp.time .voided) }
          else v = { u with
            tracker := { u.tracker with unassigned := kept ++ [⟨⟨id, g, sp.time, src⟩, .voided⟩] }
            session := (s.session.store s.clock.count
              (.unassignedDropped oldest.crossing.id oldest.crossing.gate)).store s.clock.count
                (.unassigned id g sp.time .voided) }) →
    exec .voidSplit s = .next { v with link := s.link.answer (.ok [BitVec.ofNat 8 j]) }

/-- DISCARD CROSSING: NOT_FOUND when the Unassigned List holds no entry with the id; otherwise the oldest entry with it
leaves, the entries behind keep their order, a newer one with the same id stays, and nothing else changes (R121). -/
def Obligations.DiscardCrossingDiscards : Prop :=
  ∀ (s : State) (tag i3 i2 i1 i0 : Byte) (id : Tick), s.session.state ≠ .closed →
    s.NextIs 0x35 tag [i3, i2, i1, i0] → id = word32 i3 i2 i1 i0 →
    ((∀ e ∈ s.tracker.unassigned, e.crossing.id ≠ id) →
      exec .discardCrossing s = .next { s with link := s.link.answer (.refuse .notFound) })
    ∧ ∀ older e newer, s.tracker.unassigned = older ++ e :: newer → e.crossing.id = id →
      (∀ e' ∈ older, e'.crossing.id ≠ id) →
      exec .discardCrossing s = .next { s with
        tracker := { s.tracker with unassigned := older ++ newer }
        link := s.link.answer .ok }

/-! ## Requests in general -/

/-- The generic checks 1 to 3 in their order, whichever request is in front: a code that names none is refused
UNKNOWN_REQUEST; a payload whose length is not that of R165, BAD_LENGTH; in a CLOSED session all but OPEN SESSION, PING,
STATUS and RESET PART, NOT_OPEN. Nothing but the reply comes of it (R136, R137). A code that names no request is answered
UNKNOWN_REQUEST in every session state, and nothing else changes (R136). -/
def Obligations.GenericChecksRefuse : Prop :=
  (∀ (s : State) (r : RequestEntry), s.pins.resetLow = false → s.nextRequest = some r →
    (¬r.Known → exec r.step s = .next { s with link := s.link.answer (.refuse .unknownRequest) })
    ∧ (r.Known → ¬r.LengthRight →
      exec r.step s = .next { s with link := s.link.answer (.refuse .badLength) })
    ∧ (r.LengthRight → s.session.state = .closed → r.code ∉ [(0x01 : Byte), 0x03, 0x04, 0x05] →
      exec r.step s = .next { s with link := s.link.answer (.refuse .notOpen) }))
  ∧ ∀ (s : State) (r : RequestEntry), s.pins.resetLow = false → s.nextRequest = some r → ¬r.Known →
    exec .unknownRequest s = .next { s with link := s.link.answer (.refuse .unknownRequest) }

/-- PING is answered OK in every session state and changes nothing (R144). STATUS is answered OK in every session state with
the part code 208, the revision 1, the clock state and count, the session state, window and keepalive period, the assignment
state, the numbers held of crossings, unassigned entries, reports, unsent reports and reports in flight, the Run Table's
occupancy, the course number or 0, the pending loss count and the bad-frame count (R145, R166). -/
def Obligations.PingAndStatusAnswer : Prop :=
  (∀ (s : State) (tag : Byte), s.NextIs 0x03 tag [] →
    exec .ping s = .next { s with link := s.link.answer .ok })
  ∧ ∀ (s : State) (tag : Byte), s.NextIs 0x04 tag [] →
    exec .status s = .next { s with
      link := s.link.answer (.ok
        ([(208 : Byte), 1, match s.clock.state with
            | .idle => 0 | .armed _ => 1 | .running => 2 | .halting _ => 3 | .halted => 4]
        ++ bytes32 s.clock.count
        ++ [match s.session.state with | .closed => 0 | .opened => 1 | .silent => 2,
          s.session.window, s.session.keepalive,
          match s.tracker.assignment with | .taking => 0 | .held => 1,
          BitVec.ofNat 8 s.crossings.records.length, BitVec.ofNat 8 s.tracker.unassigned.length,
          BitVec.ofNat 8 s.session.reports.length,
          BitVec.ofNat 8 (s.session.reports.countP fun r => r.delivery = .unsent),
          BitVec.ofNat 8 (s.session.reports.countP fun r => r.delivery = .inFlight),
          BitVec.ofNat 8 ((List.finRange 24).filterMap s.run).length,
          match s.tracker.course with | some c => c.number | none => 0]
        ++ bytes16 s.session.pendingLoss ++ bytes16 s.link.badFrames)) }

/-! ## The receiver and the screening -/

/-- Collecting a frame (R124): 0xD3 in HUNTING leads to LENGTH, a length byte from 4 to 244 to BODY, and each character
before the last is collected in order; the gap is measured from each (R126). Discards counted in the bad-frame count (R127),
after which the receiver hunts: a length byte outside 4 to 244 (R124), and in LENGTH or BODY 10 ms without a character, or a
framing error; in HUNTING these two change nothing (R126). That the gap may be taken to have run out once 100 tick instants
have passed since the last completed character, where R126 measures to the start of the next, and the LAPSED receiver, a
partial frame after those 10 ms that a break begun within them may still cut short uncounted, are the model's choice (log
entry 13): a sync byte ends a lapsed frame by the gap and opens the next one. -/
def Obligations.ReceiverCollectsOrDiscards : Prop :=
  (∀ s : State, s.pins.resetLow = false → s.link.breakHeld = false →
    (s.link.receiver = .hunting →
      exec .syncByteFound s = .next { s with
        link := { s.link with receiver := .length, lastCharacter := s.instant } })
    ∧ (s.link.receiver = .lapsed →
      exec .syncByteFound s = .next { s with
        link := { s.link with
          receiver := .length, lastCharacter := s.instant, badFrames := s.link.badFrames.saturatingSucc } })
    ∧ (∀ len : Byte, s.link.receiver = .length → 4 ≤ len.toNat → len.toNat ≤ 244 →
      exec (.lengthAccepted len) s = .next { s with
        link := { s.link with receiver := .body len [], lastCharacter := s.instant } })
    ∧ (∀ (len c : Byte) (cs : List Byte), s.link.receiver = .body len cs → cs.length + 1 < len.toNat + 2 →
      exec (.bodyCharacter c) s = .next { s with
        link := { s.link with receiver := .body len (cs ++ [c]), lastCharacter := s.instant } }))
  ∧ ∀ s : State, s.pins.resetLow = false →
    (∀ len : Byte, s.link.breakHeld = false → s.link.receiver = .length → len.toNat < 4 ∨ 244 < len.toNat →
      exec (.lengthOutOfRange len) s = .next { s with
        link := { s.link with
          receiver := .hunting, lastCharacter := s.instant, badFrames := s.link.badFrames.saturatingSucc } })
    ∧ (s.link.receiver = .length ∨ (∃ len cs, s.link.receiver = .body len cs) ∨ s.link.receiver = .lapsed →
      (s.link.lastCharacter + 100 ≤ s.instant →
        exec .interCharacterGap s = .next { s with
          link := { s.link with receiver := .hunting, badFrames := s.link.badFrames.saturatingSucc } })
      ∧ (s.link.breakHeld = false →
        exec .framingError s = .next { s with
          link := { s.link with receiver := .hunting, badFrames := s.link.badFrames.saturatingSucc } }))
    ∧ (s.link.receiver = .hunting →
      exec .interCharacterGap s = .next s ∧ exec .framingError s = .next s)

/-- A complete frame that is not a good request is counted bad (R125, R127). One with a good CRC and a type of 0x40 or more
ends there. With a bad CRC the characters after the sync byte are examined again: without a sync byte among them the
receiver hunts, with one as the last it is in LENGTH, and with one before a length byte and too few characters it is in
BODY. Whatever stands among them, the re-examination has one outcome, that of `Examined`: a length byte out of range is
counted and examined itself, a whole frame with a bad CRC is counted and its characters after the sync byte examined, a
whole good request goes to the Session and to the screening, any other good frame is counted, and behind a good frame the
hunt goes on (R124, R125). -/
def Obligations.BadFramesAreCounted : Prop :=
  (∀ (s : State) (c type : Byte) (rest : List Byte), s.Completes c (type :: rest) → 3 ≤ rest.length →
    0x40 ≤ type.toNat →
    exec (.frameComplete c) s = .next { s with
      link := { s.link.received s.instant with badFrames := s.link.badFrames.saturatingSucc } })
  ∧ (∀ (s : State) (len c : Byte) (cs before : List Byte), s.pins.resetLow = false → s.link.breakHeld = false →
    s.link.receiver = .body len cs → 4 ≤ len.toNat → len.toNat ≤ 244 → cs.length + 1 = len.toNat + 2 →
    (cs ++ [c]).drop len.toNat ≠ bytes16 (crc16 (len :: cs.take len.toNat)) → (∀ x ∈ before, x ≠ 0xD3) →
    (len :: cs ++ [c] = before →
      exec (.frameComplete c) s = .next { s with
        link := { s.link.received s.instant with badFrames := s.link.badFrames.saturatingSucc } })
    ∧ (len :: cs ++ [c] = before ++ [0xD3] →
      exec (.frameComplete c) s = .next { s with
        link := { s.link.received s.instant with
          badFrames := s.link.badFrames.saturatingSucc
          receiver := .length } })
    ∧ ∀ (len' : Byte) (more : List Byte), len :: cs ++ [c] = before ++ 0xD3 :: len' :: more →
      4 ≤ len'.toNat → len'.toNat ≤ 244 → more.length < len'.toNat + 2 →
      exec (.frameComplete c) s = .next { s with
        link := { s.link.received s.instant with
          badFrames := s.link.badFrames.saturatingSucc
          receiver := .body len' more } })
  ∧ ∀ (s u : State) (len c : Byte) (cs : List Byte), s.pins.resetLow = false → s.link.breakHeld = false →
    s.link.receiver = .body len cs → 4 ≤ len.toNat → len.toNat ≤ 244 → cs.length + 1 = len.toNat + 2 →
    (cs ++ [c]).drop len.toNat ≠ bytes16 (crc16 (len :: cs.take len.toNat)) →
    u = { s with
      link := { s.link.received s.instant with badFrames := s.link.badFrames.saturatingSucc } } →
    (∃ t, Examined u (len :: cs ++ [c]) t) ∧ ∀ t, Examined u (len :: cs ++ [c]) t → exec (.frameComplete c) s = .next t

/-- The arrival of a CRC-good request frame at the Session (R131, R144): in CLOSED nothing changes; in OPEN, and in SILENT,
which becomes OPEN with retry count 0, the keepalive timer restarts with its period. An ack that names an in-flight report
then removes it and all older ones, sets the retry count to 0 and restarts the retry timer, or stops it when none is left in
flight; any other ack is ignored (R151). -/
def Obligations.RequestFrameArrives : Prop :=
  ∀ (s : State) (c code tag hi lo : Byte) (payload : List Byte) (ss : Session) (keepalive : Option Instant) (retry : Nat),
    s.Completes c (code :: tag :: hi :: lo :: payload) → code.toNat < 0x40 →
    keepalive = (if s.session.keepalive = 0 then none else some (s.instant + 10000 * s.session.keepalive.toNat)) →
    retry = (if s.session.state = .silent then 0 else s.session.retryCount) →
    (s.session.state = .closed ∧ ss = s.session
      ∨ s.session.state ≠ .closed
        ∧ (∀ r ∈ s.session.reports, r.sequence = word16 hi lo → r.delivery = .unsent)
        ∧ ss = { s.session with state := .opened, keepaliveTimer := keepalive, retryCount := retry }
      ∨ s.session.state ≠ .closed ∧ ∃ older r newer, s.session.reports = older ++ r :: newer
        ∧ r.sequence = word16 hi lo ∧ r.delivery = .inFlight ∧ (∀ r' ∈ older, r'.sequence ≠ word16 hi lo)
        ∧ ss = { s.session with
          state := .opened
          keepaliveTimer := keepalive
          retryCount := 0
          reports := newer
          retryTimer := if ∃ r' ∈ newer, r'.delivery = .inFlight then some (s.instant + 2500) else none }) →
    exec (.frameComplete c) s = .next { s with
      session := ss
      link := (s.link.received s.instant).screen code tag payload }

/-- The screening of an arrival by tag and code, after the hand-over of its ack (R132): with a tag other than 0 one whose
code and tag a buffered request has is discarded, and one whose code and tag the reply cache has is answered from it; else,
with both entries occupied, BUSY; these replies go to the short reply slot if it is empty, and are otherwise dropped. Else
the request enters the buffer WAITING, behind those held. -/
def Obligations.ArrivalsAreScreened : Prop :=
  ∀ (s t : State) (c code tag hi lo : Byte) (payload : List Byte),
    s.Completes c (code :: tag :: hi :: lo :: payload) → code.toNat < 0x40 →
    t = { s with
      session := s.session.arrival s.instant (word16 hi lo)
      link := s.link.received s.instant } →
    ((tag ≠ 0 ∧ ∃ e ∈ s.link.buffer, e.tag = tag ∧ e.code = code) → exec (.frameComplete c) s = .next t)
    ∧ ((tag = 0 ∨ ∀ e ∈ s.link.buffer, ¬(e.tag = tag ∧ e.code = code)) →
      (∀ cached, tag ≠ 0 → s.link.replyCache = some cached → cached.tag = tag → cached.code = code →
        exec (.frameComplete c) s = .next { t with
          link := { t.link with shortReply := some (s.link.shortReply.getD cached.reply) } })
      ∧ ((tag = 0 ∨ ∀ cached, s.link.replyCache = some cached → ¬(cached.tag = tag ∧ cached.code = code)) →
        (2 ≤ s.link.buffer.length →
          exec (.frameComplete c) s = .next { t with
            link := { t.link with
              shortReply := some (s.link.shortReply.getD (frameOf [0x80 + code, tag, 0x01])) } })
        ∧ (s.link.buffer.length < 2 →
          exec (.frameComplete c) s = .next { t with
            link := { t.link with buffer := s.link.buffer ++ [⟨code, tag, payload, .waiting⟩] } })))

/-- A whole request frame with any body of 4 to 244 bytes and the CRC of its bytes, received character by character from
HUNTING, is always accepted and never counted bad: its ack goes to the Session and the request, with its code, tag and
payload, to the screening, and the receiver hunts behind it (R124, R125, R131, R161). -/
def Obligations.WholeFramesAreReceived : Prop :=
  ∀ (s : State) (code tag hi lo : Byte) (payload : List Byte), s.pins.resetLow = false →
    s.link.breakHeld = false → s.link.receiver = .hunting → payload.length ≤ 240 → code.toNat < 0x40 →
    runAll (receiving (code :: tag :: hi :: lo :: payload)) s = some { s with
      session := s.session.arrival s.instant (word16 hi lo)
      link := (s.link.received s.instant).screen code tag payload }

/-- A break is one link reset (R128, R129): the transmitter is free, the receiver hunts, the buffer, the short reply slot
and the reply cache are empty, the session is CLOSED with its in-flight reports unsent, and a hold ends with HOLD RELEASED
(LINK_RESET) (R89); the bad-frame count and all else are kept. A request in front is either dropped with the buffer or, taken
before the link reset, is in hand after it if it passes generic checks 1 to 3 (R130, R136); which of the two is the free
value's (log entry 20). A request in hand completes its effect in its own step and its reply is dropped (R130): OPEN SESSION
leaves the session OPEN, HOLD ASSIGNMENT finds it not OPEN and is refused, CLOSE SESSION finds nothing to close, ARM CLOCK
arms the clock and stores its report, and every request but the first three does to the part what it does when it waits
alone in front of an OPEN session.
While RXD stays low there is no second link reset; when it returns high the receiver hunts for the next character. That the
transmitter is free in the step itself, and not after the character in progress, is the model's choice (log entry 10), and
`openChoice` is the model's (log entry 20). -/
def Obligations.BreakResetsTheLink : Prop :=
  (∀ (s : State) (ss : Session) (hand : Option RequestEntry) (n : Nat), s.pins.resetLow = false →
    s.link.breakHeld = false → s.resetDecided = false → s.HoldLaw →
    ss = { s.session with
      state := .closed, retryCount := 0, retryTimer := none, keepaliveTimer := none
      reports := s.session.reports.map fun r => { r with delivery := .unsent } } →
    (s.nextRequest = none ∧ hand = s.link.inHand ∧ n = s.meetings
      ∨ ∃ r, s.nextRequest = some r ∧ n = s.meetings + 1 ∧ (r.code = 5 → r.payload ≠ [])
        ∧ (r.Known ∧ r.LengthRight ∧ (s.session.state = .closed → r.code ∈ [1, 3, 4, 5])
            ∧ hand = (if Config.meeting s.meetings then some { r with state := .executing } else none)
          ∨ ¬(r.Known ∧ r.LengthRight ∧ (s.session.state = .closed → r.code ∈ [1, 3, 4, 5])) ∧ hand = none)) →
    exec .lineBreak s = .next { s with
      tracker := { s.tracker with assignment := .taking }
      session :=
        if s.tracker.assignment = .held then ss.store s.clock.count (.holdReleased .linkReset) else ss
      link := { s.link with
        receiver := .hunting, breakHeld := true, buffer := [], shortReply := none, replyCache := none
        inHand := hand, transmitter := .free, openChoice := true }
      meetings := n })
  ∧ (∀ (s : State) (r : RequestEntry), s.pins.resetLow = false → s.link.inHand = some r →
    (∃ t, exec r.step s = .next t ∧ t.link = { s.link with inHand := none })
    ∧ (∀ t, r.LengthRight → r.code ≠ 0x01 → r.code ≠ 0x02 → r.code ≠ 0x30 → exec r.step (s.alone r) = .next t →
      exec r.step s = .next { t with
        session := { t.session with state := s.session.state }
        link := { s.link with inHand := none } })
    ∧ (∀ (w k flags : Byte), r.code = 0x01 → r.payload = [w, k, flags] → 1 ≤ w.toNat → w.toNat ≤ 8 →
      k.toNat ≤ 120 → flags = 0 →
      exec .openSession s = .next { s with
        session := {
          state := .opened
          window := w
          keepalive := k
          retryCount := 0
          retryTimer := none
          keepaliveTimer := if k = 0 then none else some (s.instant + 10000 * k.toNat)
          reports := s.session.reports.map fun r => { r with delivery := .unsent }
          pendingLoss := s.session.pendingLoss
          nextSequence := s.session.nextSequence }
        link := { s.link with inHand := none } })
    ∧ (r.code = 0x30 → r.payload = [] → s.session.state ≠ .opened →
      exec .holdAssignment s = .next { s with link := { s.link with inHand := none } })
    ∧ (r.code = 0x02 → r.payload = [] → s.session.Lawful → s.session.state = .closed →
      exec .closeSession s = .next { s with link := { s.link with inHand := none } })
    ∧ (∀ g : Gate, r.code = 0x18 → r.payload = [BitVec.ofNat 8 g] → s.clock.state = .idle →
      (s.gate g).config.enabled = true →
      exec .armClock s = .next { s with
        clock := ⟨.armed g, s.clock.count⟩
        session := s.session.store s.clock.count (.clockState .armed .request)
        link := { s.link with inHand := none } }))
  ∧ (∀ s : State, s.link.breakHeld = true → exec .lineBreak s = .next s)
  ∧ ∀ s : State, s.pins.resetLow = false → s.link.breakHeld = true →
    exec .breakEnd s = .next { s with link := { s.link with breakHeld := false, receiver := .hunting } }

/-! ## The transmitter -/

/-- The free transmitter begins the short reply, else the READY reply whose request arrived first, whose entry goes to
SENDING, else the oldest unsent report, when the session is OPEN, fewer reports than the window are in flight and no RESET
PART awaits the completion of its reply (R133, R138, R149). Where a reply and a report have become present together at the
free transmitter, either is taken first (R139): which, is the free value's, and that they have become so where no reply was
present when the transmitter last became free, or at the last tick instant, is the model's choice (log entry 20). A frame
begun is not replaced. The bytes of the frames are in `FramesAreLaidOut`. -/
def Obligations.FrameStartChooses : Prop :=
  ∀ s : State, s.pins.resetLow = false →
    (s.link.transmitter ≠ .free → exec .frameStart s = .next s)
    ∧ (s.link.transmitter = .free →
      (∀ (reply : Transmitter) (buffer : List RequestEntry),
        ((∃ f, s.link.shortReply = some f ∧ reply = .shortReply f ∧ buffer = s.link.buffer)
          ∨ s.link.shortReply = none ∧ ∃ older e f newer, s.link.buffer = older ++ e :: newer ∧ e.state = .ready f
            ∧ (∀ e' ∈ older, ∀ f', e'.state ≠ .ready f') ∧ reply = .bufferReply f
            ∧ buffer = older ++ { e with state := .sending f } :: newer) →
        (s.link.openChoice = false ∨ s.OffersNone →
          exec .frameStart s = .next { s with
            link := { s.link with transmitter := reply, buffer := buffer, openChoice := false } })
        ∧ ∀ r, s.link.openChoice = true → s.Offers r →
          exec .frameStart s = .next { s with
            link :=
              if Config.meeting s.meetings then
                { s.link with transmitter := .report r.sequence (reportFrame r), openChoice := false }
              else { s.link with transmitter := reply, buffer := buffer, openChoice := false }
            meetings := s.meetings + 1 })
      ∧ (s.link.shortReply = none → (∀ e ∈ s.link.buffer, ∀ f, e.state ≠ .ready f) →
        (∀ r, s.Offers r →
          exec .frameStart s = .next { s with
            link := { s.link with transmitter := .report r.sequence (reportFrame r), openChoice := false } })
        ∧ (s.OffersNone → exec .frameStart s = .next s)))

/-- The bytes of every frame the part sends. The outer frame is the sync byte 0xD3, the length byte, the body and the CRC of
length byte and body, most significant byte first (10.1); the CRC starts at 0xFFFF and takes each byte in as R161 says. Two
and four byte fields have their most significant byte first (R163). A reply's body is the type 0x80 plus the code, the tag,
the status code of R168 and the payload, and a refusal has no payload (R166). A report's body is the type 0xC0, the
sequence, the kind byte, with 0x80 added when a lost count follows the creation time, the creation time, the lost count if
any, and the fields of the report's kind with the codes of R163 (R167, 10.5); its delivery status plays no part. -/
def Obligations.FramesAreLaidOut : Prop :=
  (∀ w : Word, bytes16 w = [BitVec.ofNat 8 (w.toNat / 256), BitVec.ofNat 8 w.toNat])
  ∧ (∀ t : Tick, bytes32 t = [BitVec.ofNat 8 (t.toNat / 16777216), BitVec.ofNat 8 (t.toNat / 65536),
    BitVec.ofNat 8 (t.toNat / 256), BitVec.ofNat 8 t.toNat])
  ∧ crc16 [] = 0xFFFF
  ∧ (∀ (covered : List Byte) (b : Byte), crc16 (covered ++ [b]) =
    (fun crc : Word => if crc.msb = true then (crc <<< 1) ^^^ 0x1021 else crc <<< 1)^[8]
      (crc16 covered ^^^ (b.setWidth 16 <<< 8)))
  ∧ (∀ body : List Byte, frameOf body =
    0xD3 :: BitVec.ofNat 8 body.length :: body ++ bytes16 (crc16 (BitVec.ofNat 8 body.length :: body)))
  ∧ (∀ (code tag : Byte) (st : Status) (payload : List Byte),
    replyFrame code tag ⟨st, payload⟩ = frameOf ((0x80 + code) :: tag :: (match st with
      | .ok => 0x00 | .busy => 0x01 | .unknownRequest => 0x02 | .badLength => 0x03 | .badValue => 0x04
      | .notOpen => 0x05 | .wrongState => 0x06 | .notFound => 0x07 | .tableFull => 0x08 | .duplicate => 0x09
      | .courseInUse => 0x0A | .runsActive => 0x0B | .queueFull => 0x0C | .outOfOrder => 0x0D
      | .deadlinePassed => 0x0E | .noCourse => 0x0F) :: payload)
    ∧ (Response.refuse st).payload = [])
  ∧ ∀ (r : Report) (kind : Byte) (fields : List Byte),
    (kind, fields) = (match r.body with
      | .reset cause => (0x01, [match cause with | .external => 0 | .request => 1])
      | .clockState state reason => (0x02,
        [match state with | .idle => 0 | .armed => 1 | .running => 2 | .halting => 3 | .halted => 4,
          match reason with | .request => 0 | .trigger => 1 | .boundary => 2 | .limit => 3])
      | .crossing c => (0x03,
        bytes32 c.id ++ [BitVec.ofNat 8 c.gate] ++ bytes32 c.time
          ++ [match c.source with | .sensor => 0 | .manual => 1])
      | .crossingLost gate time => (0x04, [BitVec.ofNat 8 gate] ++ bytes32 time)
      | .runStarted run slot time source => (0x05,
        bytes16 run ++ [BitVec.ofNat 8 slot] ++ bytes32 time
          ++ [match source with | .sensor => 0 | .manual => 1 | .group => 2])
      | .split run step gate id time elapsed segment host => (0x06,
        bytes16 run ++ [BitVec.ofNat 8 step, BitVec.ofNat 8 gate] ++ bytes32 id ++ bytes32 time ++ bytes32 elapsed
          ++ bytes32 segment ++ [if host then 1 else 0])
      | .runEnded run reason elapsed => (0x07,
        bytes16 run ++ [match reason with | .finished => 1 | .overTime => 2 | .withdrawn => 3]
          ++ bytes32 (elapsed.getD 0))
      | .unassigned id gate time reason => (0x08,
        bytes32 id ++ [BitVec.ofNat 8 gate] ++ bytes32 time
          ++ [match reason with | .noStep => 1 | .noRun => 2 | .tooSoon => 3 | .voided => 4])
      | .unassignedDropped id gate => (0x09, bytes32 id ++ [BitVec.ofNat 8 gate])
      | .gateAlarm gate condition => (0x0A,
        [BitVec.ofNat 8 gate, match condition with | .blocked => 0 | .cleared => 1])
      | .holdReleased cause => (0x0B,
        [match cause with | .sessionClosed => 0 | .sessionSilent => 1 | .linkReset => 2])) →
    (r.lost = none →
      reportFrame r = frameOf (0xC0 :: bytes16 r.sequence ++ kind :: bytes32 r.created ++ fields))
    ∧ ∀ n, r.lost = some n →
      reportFrame r = frameOf (0xC0 :: bytes16 r.sequence ++ (kind + 0x80) :: bytes32 r.created ++ bytes16 n ++ fields)

/-- A reply completely sent (R138): the short reply slot is empty; or the buffer entry is empty and the reply cache takes
its code, tag and reply (R134). The transmitter is free, and `openChoice`, the model's own (log entry 20), says whether it
finds no reply present. The reply of a RESET PART is another statement's. -/
def Obligations.RepliesSent : Prop :=
  ∀ s : State, s.pins.resetLow = false →
    (∀ f, s.link.transmitter = .shortReply f →
      exec .shortReplySent s = .next { s with
        link := { s.link with
          transmitter := .free, shortReply := none
          openChoice := decide (∀ e ∈ s.link.buffer, e.readyReply = none) } })
    ∧ ∀ older e f newer, s.link.transmitter = .bufferReply f → s.link.buffer = older ++ e :: newer →
      e.state = .sending f → (∀ e' ∈ older, ∀ f', e'.state ≠ .sending f') → (e.code = 5 → e.payload ≠ []) →
      exec .bufferReplySent s = .next { s with
        link := { s.link with
          transmitter := .free, buffer := older ++ newer, replyCache := some ⟨e.code, e.tag, f⟩
          openChoice := decide (s.link.shortReply = none ∧ ∀ e' ∈ older ++ newer, e'.readyReply = none) } }

/-- RESET PART (R140). Its take changes nothing but its entry, which holds the OK reply, and from then on no request is
taken. When that reply has been sent, or in the event of a link reset before that, the whole part takes the state of
external reset with a RESET report of cause REQUEST; the link rate is kept. A RESET PART in front at a link reset that was
taken before it, which is the free value's to say (log entry 20), resets the part in that event too; one not taken is
dropped, and no reset follows. That the divider's
count, the pins and a break in progress go on across the reset is DEDUCED (log entry 16), and that the transmitter is free
in the step of the break is the model's choice (log entry 10). -/
def Obligations.ResetPartResets : Prop :=
  (∀ (s : State) (tag : Byte), s.NextIs 0x05 tag [] →
    exec .resetPart s = .next { s with link := s.link.answer .ok }
    ∧ ∀ t : State, t.link = s.link.answer .ok → t.resetDecided = true ∧ t.nextRequest = none)
  ∧ ∀ (s t : State) (held : Bool), s.pins.resetLow = false →
    t = { State.reset with
      link := { State.reset.link with rate := s.link.rate, breakHeld := held }
      session := { State.reset.session with reports := [⟨1, .reset .request, 0, none, .unsent⟩] }
      pins := s.pins
      instant := s.instant
      meetings := s.meetings
      pending := s.pending } →
    (∀ older e f newer, s.link.transmitter = .bufferReply f → s.link.buffer = older ++ e :: newer →
      e.state = .sending f → (∀ e' ∈ older, ∀ f', e'.state ≠ .sending f') → e.code = 5 → e.payload = [] →
      held = s.link.breakHeld → exec .bufferReplySent s = .next t)
    ∧ ((∃ e ∈ s.link.buffer, e.code = 5 ∧ e.payload = [] ∧ e.state ≠ .waiting) → s.link.breakHeld = false →
      held = true → exec .lineBreak s = .next t)
    ∧ ∀ tag, s.NextIs 0x05 tag [] → s.link.breakHeld = false → held = true →
      ∃ u, exec .lineBreak s = .next u
        ∧ (Config.meeting s.meetings = true → u = { t with meetings := s.meetings + 1 })
        ∧ (Config.meeting s.meetings = false →
          u.link.buffer = [] ∧ u.link.inHand = none ∧ u.clock = s.clock ∧ u.gates = s.gates ∧ u.crossings = s.crossings
          ∧ u.tracker = { s.tracker with assignment := u.tracker.assignment } ∧ u.pins = s.pins
          ∧ u.link.badFrames = s.link.badFrames ∧ u.meetings = s.meetings + 1)

/-! ## The session and report delivery -/

/-- A report created (R146, R147): with fewer than 48 held it is stored at the newest end, unsent, with the next sequence,
its creation time and the pending loss count if that is not 0, which is then 0; with 48 held it is refused and the pending
loss count goes up by one, stopping at 65,535. -/
def Obligations.ReportsAreStored : Prop :=
  ∀ (s : State) (b : ReportBody),
    (s.session.reports.length < 48 →
      s.report b = { s with session := { s.session with
        reports := s.session.reports ++ [⟨s.session.nextSequence, b, s.clock.count,
          if s.session.pendingLoss = 0 then none else some s.session.pendingLoss, .unsent⟩]
        nextSequence := s.session.nextSequence + 1
        pendingLoss := 0 } })
    ∧ (48 ≤ s.session.reports.length →
      s.report b = { s with session := { s.session with
        pendingLoss := if s.session.pendingLoss = 0xFFFF then 0xFFFF else s.session.pendingLoss + 1 } })

/-- A report frame completely sent puts its report in flight when it is still stored, the session is OPEN, fewer reports
than the window are in flight and every older report is; the retry timer then starts if it is stopped (R149, R152). Else the
report stays as it is. In each case the transmitter is free (R138), and `openChoice`, the model's own (log entry 20), says
whether it finds no reply present. -/
def Obligations.ReportSentGoesInFlight : Prop :=
  ∀ (s : State) (q : Word) (f : List Byte) (noReply : Bool), s.session.Lawful → s.pins.resetLow = false →
    s.link.transmitter = .report q f →
    noReply = decide (s.link.shortReply = none ∧ ∀ e ∈ s.link.buffer, e.readyReply = none) →
    (∀ older r newer, s.session.reports = older ++ r :: newer → r.sequence = q →
      (∀ r' ∈ older, r'.delivery = .inFlight) → s.session.state = .opened →
      s.session.reports.countP (fun r => r.delivery = .inFlight) < s.session.window.toNat →
      exec .reportSent s = .next { s with
        session := { s.session with
          reports := older ++ { r with delivery := .inFlight } :: newer
          retryTimer := some (s.session.retryTimer.getD (s.instant + 2500)) }
        link := { s.link with transmitter := .free, openChoice := noReply } })
    ∧ (s.session.state ≠ .opened
        ∨ s.session.window.toNat ≤ s.session.reports.countP (fun r => r.delivery = .inFlight)
        ∨ (∀ r ∈ s.session.reports, r.sequence ≠ q)
        ∨ (∃ older r newer, s.session.reports = older ++ r :: newer ∧ r.sequence = q
            ∧ ∃ r' ∈ older, r'.delivery = .unsent) →
      exec .reportSent s = .next { s with link := { s.link with transmitter := .free, openChoice := noReply } })

/-- When the retry timer of an OPEN session expires, every in-flight report returns to unsent, the retry count goes up by
one and the timer stops (R153); at 6, and when the keepalive timer expires, the session enters SILENT with retry count 0 and
both timers stopped, and a hold ends with HOLD RELEASED (SESSION_SILENT) (R154, R155, R89); HLOST is then active (R156). -/
def Obligations.TimersExpire : Prop :=
  ∀ (s : State) (ss : Session) (e : Instant), s.pins.resetLow = false → s.session.state = .opened → e ≤ s.instant →
    ss = { s.session with reports := s.session.reports.map fun r => { r with delivery := .unsent } } →
    (s.session.retryTimer = some e → s.session.retryCount + 1 < 6 →
      exec .retryTimerExpiry s = .next { s with
        session := { ss with retryCount := s.session.retryCount + 1, retryTimer := none } })
    ∧ ∀ quiet t, quiet = { ss with state := .silent, retryCount := 0, retryTimer := none, keepaliveTimer := none } →
      t = { s with
        tracker := { s.tracker with assignment := .taking }
        session :=
          if s.tracker.assignment = .held then quiet.store s.clock.count (.holdReleased .sessionSilent)
          else quiet } →
      t.hlost = true
      ∧ (s.session.retryTimer = some e → 6 ≤ s.session.retryCount + 1 → exec .retryTimerExpiry s = .next t)
      ∧ (s.session.keepaliveTimer = some e → exec .keepaliveExpiry s = .next t)

/-- OPEN SESSION in every session state (R142): a window outside 1 to 8, a keepalive period above 120 or a flag other than
DISCARD is refused BAD_VALUE; else the window and period are taken, DISCARD removes every report and sets the pending loss
count to 0, the reports kept are unsent, the retry count is 0, the retry timer stops, the session is OPEN and its keepalive
timer starts, or stops with a period of 0. The reply carries the oldest stored sequence, or its absence, and the next one.
CLOSE SESSION in an OPEN or SILENT session (R143): the reports are unsent, the retry count is 0, both timers stop and the
session is CLOSED, with its reports, pending loss count and next sequence kept; a hold ends with HOLD RELEASED
(SESSION_CLOSED) (R89). -/
def Obligations.SessionsOpenAndClose : Prop :=
  (∀ (s : State) (tag w k flags : Byte), s.NextIs 0x01 tag [w, k, flags] →
    (w = 0 ∨ 8 < w.toNat ∨ 120 < k.toNat ∨ 1 < flags.toNat →
      exec .openSession s = .next { s with link := s.link.answer (.refuse .badValue) })
    ∧ ∀ (reports : List Report) (loss : Word) (oldest : List Byte), 1 ≤ w.toNat → w.toNat ≤ 8 → k.toNat ≤ 120 →
      (flags = 1 ∧ reports = [] ∧ loss = 0
        ∨ flags = 0 ∧ reports = s.session.reports.map (fun r => { r with delivery := .unsent })
          ∧ loss = s.session.pendingLoss) →
      (reports = [] ∧ oldest = [0, 0, 0] ∨ ∃ r rs, reports = r :: rs ∧ oldest = 1 :: bytes16 r.sequence) →
      exec .openSession s = .next { s with
        session := {
          state := .opened
          window := w
          keepalive := k
          retryCount := 0
          retryTimer := none
          keepaliveTimer := if k = 0 then none else some (s.instant + 10000 * k.toNat)
          reports := reports
          pendingLoss := loss
          nextSequence := s.session.nextSequence }
        link := s.link.answer (.ok (oldest ++ bytes16 s.session.nextSequence)) })
  ∧ ∀ (s : State) (ss : Session) (tag : Byte), s.session.state ≠ .closed → s.NextIs 0x02 tag [] → s.HoldLaw →
    ss = { s.session with
      state := .closed, retryCount := 0, retryTimer := none, keepaliveTimer := none
      reports := s.session.reports.map fun r => { r with delivery := .unsent } } →
    exec .closeSession s = .next { s with
      tracker := { s.tracker with assignment := .taking }
      session :=
        if s.tracker.assignment = .held then ss.store s.clock.count (.holdReleased .sessionClosed) else ss
      link := s.link.answer .ok }

/-! ## What every step keeps -/

/-- No step breaks the laws of report delivery: at most 48 reports, their sequences consecutive; no more in flight than the
window, none unless the session is OPEN, those in flight older than every unsent one; and the ranges and running timers of
the session. -/
def Obligations.DeliveryLawsKept : Prop :=
  ∀ s t : State, s.session.Lawful → step s = .next t → t.session.Lawful

/-- While the assignment state is HELD, the session is OPEN (R90): no step breaks it. -/
def Obligations.HoldLawKept : Prop :=
  ∀ s t : State, s.HoldLaw → step s = .next t → t.HoldLaw

/-- No step breaks the laws of the course, the Run Table and the expectation queues: no two slots with one run number, split
lists in step order with times that never decrease, the split count, deadline and end reason that each run state has, and
every active run exactly once in the queue of its split count and in no other (R61, R62, R64, R66, R74, R84, R85). -/
def Obligations.TrackerLawKept : Prop :=
  ∀ s t : State, s.TrackerLaw → step s = .next t → t.TrackerLaw

/-- No step breaks the laws of race time: a count and a halt target that the clock state admits, no valid edge time and no
crossing time later than the count, and no crossing waiting while the clock is IDLE or ARMED (R2, R10, R24, R43, R99). -/
def Obligations.TimeLawKept : Prop :=
  ∀ s t : State, s.TimeLaw → step s = .next t → t.TimeLaw

/-- No step breaks the laws of the gates: configuration values in the ranges of R17, DISABLED with enabled no or awaiting
its first sample, and the alarm-raised marker in HOLDOFF and BLOCKED only (R19, R31). -/
def Obligations.GateLawsKept : Prop :=
  ∀ s t : State, s.GatesLawful → step s = .next t → t.GatesLawful

/-- No step breaks the laws of the link: at most two requests held, a reply SENDING exactly while it is on TXD, the receiver
HUNTING after a break, and a partial frame shorter than its length says (R124, R128, R133, R138). Two of these laws are the
model's reading and no rule of the spec, DEDUCED in log entry 9 from 95_what_each_step_holds.md, by which each step is whole
and indivisible: no buffered request is EXECUTING between two steps, and a request that a link reset left in hand (R130) is
EXECUTING and no RESET PART, which completes in the event of the link reset (R140). No step holds more than the part's
capacities, 32 crossings, 16 unassigned entries, 48 reports and 2 requests, nor breaks the sequence of crossing ids, which
follow one another from head to tail up to the next id (R35, R37, R133, R148). -/
def Obligations.LinkAndCapacityLawsKept : Prop :=
  (∀ s t : State, s.link.Lawful → s.link.receiver.Lawful → step s = .next t →
    t.link.Lawful ∧ t.link.receiver.Lawful)
  ∧ ∀ s t : State, s.WithinCapacity → s.crossings.IdsConsecutive → step s = .next t →
    t.WithinCapacity ∧ t.crossings.IdsConsecutive

/-- Only CLEAR CLOCK, RSTn going low, external reset and RESET PART, completed by its reply or by a link reset, lower the
count: over every other command it never decreases (R3). BUFFER_REPLY_SENT lowers it only when a RESET PART is decided, and
BREAK only then or when a RESET PART in front was taken before it, which is the free value's to say (log entry 20). That the
count is 0 while RSTn is low is the model's choice (log entry 7). -/
def Obligations.CountNeverDecreases : Prop :=
  ∀ (c : Instr) (s t : State), s.TimeLaw → exec c s = .next t → t.clock.count < s.clock.count →
    t.clock.count = 0 ∧ (c = .clearClock ∨ c = .rstnLow ∨ (∃ b1 b0, c = .externalReset b1 b0)
      ∨ (c = .bufferReplySent ∨ c = .lineBreak) ∧ s.resetDecided = true
      ∨ c = .lineBreak ∧ Config.meeting s.meetings = true ∧ ∃ tag, s.NextIs 0x05 tag [])
end

