-- ==== Sys2Proof/Laws/State.lean ====
section
/-! SUPPORT. One lemma per field per update: what each plain update of the state leaves in every field, by `rfl`; and what
is read back from a gate, a run and a queue after it is written. -/

namespace Sys2Proof.Machine


@[simp] theorem State.report_clock (s : State) (b : ReportBody) : (s.report b).clock = s.clock := rfl
@[simp] theorem State.report_gates (s : State) (b : ReportBody) : (s.report b).gates = s.gates := rfl
@[simp] theorem State.report_crossings (s : State) (b : ReportBody) : (s.report b).crossings = s.crossings := rfl
@[simp] theorem State.report_tracker (s : State) (b : ReportBody) : (s.report b).tracker = s.tracker := rfl
@[simp] theorem State.report_link (s : State) (b : ReportBody) : (s.report b).link = s.link := rfl
@[simp] theorem State.report_session (s : State) (b : ReportBody) :
    (s.report b).session = s.session.store s.clock.count b := rfl
@[simp] theorem State.report_pins (s : State) (b : ReportBody) : (s.report b).pins = s.pins := rfl
@[simp] theorem State.report_instant (s : State) (b : ReportBody) : (s.report b).instant = s.instant := rfl
@[simp] theorem State.report_meetings (s : State) (b : ReportBody) : (s.report b).meetings = s.meetings := rfl
@[simp] theorem State.report_pending (s : State) (b : ReportBody) : (s.report b).pending = s.pending := rfl

@[simp] theorem State.setGate_clock (s : State) (g : Gate) (u : GateUnit) : (s.setGate g u).clock = s.clock := rfl
@[simp] theorem State.setGate_gates (s : State) (g : Gate) (u : GateUnit) :
    (s.setGate g u).gates = s.gates.set g u := rfl
@[simp] theorem State.setGate_crossings (s : State) (g : Gate) (u : GateUnit) :
    (s.setGate g u).crossings = s.crossings := rfl
@[simp] theorem State.setGate_tracker (s : State) (g : Gate) (u : GateUnit) :
    (s.setGate g u).tracker = s.tracker := rfl
@[simp] theorem State.setGate_link (s : State) (g : Gate) (u : GateUnit) : (s.setGate g u).link = s.link := rfl
@[simp] theorem State.setGate_session (s : State) (g : Gate) (u : GateUnit) :
    (s.setGate g u).session = s.session := rfl
@[simp] theorem State.setGate_pins (s : State) (g : Gate) (u : GateUnit) : (s.setGate g u).pins = s.pins := rfl
@[simp] theorem State.setGate_instant (s : State) (g : Gate) (u : GateUnit) :
    (s.setGate g u).instant = s.instant := rfl
@[simp] theorem State.setGate_meetings (s : State) (g : Gate) (u : GateUnit) :
    (s.setGate g u).meetings = s.meetings := rfl
@[simp] theorem State.setGate_pending (s : State) (g : Gate) (u : GateUnit) :
    (s.setGate g u).pending = s.pending := rfl

@[simp] theorem State.setRun_clock (s : State) (i : Slot) (r : Option Run) : (s.setRun i r).clock = s.clock := rfl
@[simp] theorem State.setRun_gates (s : State) (i : Slot) (r : Option Run) : (s.setRun i r).gates = s.gates := rfl
@[simp] theorem State.setRun_crossings (s : State) (i : Slot) (r : Option Run) :
    (s.setRun i r).crossings = s.crossings := rfl
@[simp] theorem State.setRun_tracker (s : State) (i : Slot) (r : Option Run) :
    (s.setRun i r).tracker = { s.tracker with runs := s.tracker.runs.set i r } := rfl
@[simp] theorem State.setRun_link (s : State) (i : Slot) (r : Option Run) : (s.setRun i r).link = s.link := rfl
@[simp] theorem State.setRun_session (s : State) (i : Slot) (r : Option Run) :
    (s.setRun i r).session = s.session := rfl
@[simp] theorem State.setRun_pins (s : State) (i : Slot) (r : Option Run) : (s.setRun i r).pins = s.pins := rfl
@[simp] theorem State.setRun_instant (s : State) (i : Slot) (r : Option Run) :
    (s.setRun i r).instant = s.instant := rfl
@[simp] theorem State.setRun_meetings (s : State) (i : Slot) (r : Option Run) :
    (s.setRun i r).meetings = s.meetings := rfl
@[simp] theorem State.setRun_pending (s : State) (i : Slot) (r : Option Run) :
    (s.setRun i r).pending = s.pending := rfl

@[simp] theorem State.setQueues_clock (s : State) (qs : List (List Slot)) : (s.setQueues qs).clock = s.clock := rfl
@[simp] theorem State.setQueues_gates (s : State) (qs : List (List Slot)) : (s.setQueues qs).gates = s.gates := rfl
@[simp] theorem State.setQueues_crossings (s : State) (qs : List (List Slot)) :
    (s.setQueues qs).crossings = s.crossings := rfl
@[simp] theorem State.setQueues_tracker (s : State) (qs : List (List Slot)) :
    (s.setQueues qs).tracker = { s.tracker with queues := qs } := rfl
@[simp] theorem State.setQueues_link (s : State) (qs : List (List Slot)) : (s.setQueues qs).link = s.link := rfl
@[simp] theorem State.setQueues_session (s : State) (qs : List (List Slot)) :
    (s.setQueues qs).session = s.session := rfl
@[simp] theorem State.setQueues_pins (s : State) (qs : List (List Slot)) : (s.setQueues qs).pins = s.pins := rfl
@[simp] theorem State.setQueues_instant (s : State) (qs : List (List Slot)) :
    (s.setQueues qs).instant = s.instant := rfl
@[simp] theorem State.setQueues_meetings (s : State) (qs : List (List Slot)) :
    (s.setQueues qs).meetings = s.meetings := rfl
@[simp] theorem State.setQueues_pending (s : State) (qs : List (List Slot)) :
    (s.setQueues qs).pending = s.pending := rfl

@[simp] theorem State.setUnassigned_clock (s : State) (es : List UnassignedEntry) :
    (s.setUnassigned es).clock = s.clock := rfl
@[simp] theorem State.setUnassigned_gates (s : State) (es : List UnassignedEntry) :
    (s.setUnassigned es).gates = s.gates := rfl
@[simp] theorem State.setUnassigned_crossings (s : State) (es : List UnassignedEntry) :
    (s.setUnassigned es).crossings = s.crossings := rfl
@[simp] theorem State.setUnassigned_tracker (s : State) (es : List UnassignedEntry) :
    (s.setUnassigned es).tracker = { s.tracker with unassigned := es } := rfl
@[simp] theorem State.setUnassigned_link (s : State) (es : List UnassignedEntry) :
    (s.setUnassigned es).link = s.link := rfl
@[simp] theorem State.setUnassigned_session (s : State) (es : List UnassignedEntry) :
    (s.setUnassigned es).session = s.session := rfl
@[simp] theorem State.setUnassigned_pins (s : State) (es : List UnassignedEntry) :
    (s.setUnassigned es).pins = s.pins := rfl
@[simp] theorem State.setUnassigned_instant (s : State) (es : List UnassignedEntry) :
    (s.setUnassigned es).instant = s.instant := rfl
@[simp] theorem State.setUnassigned_meetings (s : State) (es : List UnassignedEntry) :
    (s.setUnassigned es).meetings = s.meetings := rfl
@[simp] theorem State.setUnassigned_pending (s : State) (es : List UnassignedEntry) :
    (s.setUnassigned es).pending = s.pending := rfl

@[simp] theorem State.setSession_clock (s : State) (ss : Session) : (s.setSession ss).clock = s.clock := rfl
@[simp] theorem State.setSession_gates (s : State) (ss : Session) : (s.setSession ss).gates = s.gates := rfl
@[simp] theorem State.setSession_crossings (s : State) (ss : Session) :
    (s.setSession ss).crossings = s.crossings := rfl
@[simp] theorem State.setSession_tracker (s : State) (ss : Session) : (s.setSession ss).tracker = s.tracker := rfl
@[simp] theorem State.setSession_link (s : State) (ss : Session) : (s.setSession ss).link = s.link := rfl
@[simp] theorem State.setSession_session (s : State) (ss : Session) : (s.setSession ss).session = ss := rfl
@[simp] theorem State.setSession_pins (s : State) (ss : Session) : (s.setSession ss).pins = s.pins := rfl
@[simp] theorem State.setSession_instant (s : State) (ss : Session) : (s.setSession ss).instant = s.instant := rfl
@[simp] theorem State.setSession_meetings (s : State) (ss : Session) : (s.setSession ss).meetings = s.meetings := rfl
@[simp] theorem State.setSession_pending (s : State) (ss : Session) : (s.setSession ss).pending = s.pending := rfl

@[simp] theorem State.setLink_clock (s : State) (l : LinkController) : (s.setLink l).clock = s.clock := rfl
@[simp] theorem State.setLink_gates (s : State) (l : LinkController) : (s.setLink l).gates = s.gates := rfl
@[simp] theorem State.setLink_crossings (s : State) (l : LinkController) :
    (s.setLink l).crossings = s.crossings := rfl
@[simp] theorem State.setLink_tracker (s : State) (l : LinkController) : (s.setLink l).tracker = s.tracker := rfl
@[simp] theorem State.setLink_link (s : State) (l : LinkController) : (s.setLink l).link = l := rfl
@[simp] theorem State.setLink_session (s : State) (l : LinkController) : (s.setLink l).session = s.session := rfl
@[simp] theorem State.setLink_pins (s : State) (l : LinkController) : (s.setLink l).pins = s.pins := rfl
@[simp] theorem State.setLink_instant (s : State) (l : LinkController) : (s.setLink l).instant = s.instant := rfl
@[simp] theorem State.setLink_meetings (s : State) (l : LinkController) : (s.setLink l).meetings = s.meetings := rfl
@[simp] theorem State.setLink_pending (s : State) (l : LinkController) : (s.setLink l).pending = s.pending := rfl

@[simp] theorem State.setBuffer_clock (s : State) (b : List RequestEntry) : (s.setBuffer b).clock = s.clock := rfl
@[simp] theorem State.setBuffer_gates (s : State) (b : List RequestEntry) : (s.setBuffer b).gates = s.gates := rfl
@[simp] theorem State.setBuffer_crossings (s : State) (b : List RequestEntry) :
    (s.setBuffer b).crossings = s.crossings := rfl
@[simp] theorem State.setBuffer_tracker (s : State) (b : List RequestEntry) :
    (s.setBuffer b).tracker = s.tracker := rfl
@[simp] theorem State.setBuffer_link (s : State) (b : List RequestEntry) :
    (s.setBuffer b).link = { s.link with buffer := b } := rfl
@[simp] theorem State.setBuffer_session (s : State) (b : List RequestEntry) :
    (s.setBuffer b).session = s.session := rfl
@[simp] theorem State.setBuffer_pins (s : State) (b : List RequestEntry) : (s.setBuffer b).pins = s.pins := rfl
@[simp] theorem State.setBuffer_instant (s : State) (b : List RequestEntry) :
    (s.setBuffer b).instant = s.instant := rfl
@[simp] theorem State.setBuffer_meetings (s : State) (b : List RequestEntry) :
    (s.setBuffer b).meetings = s.meetings := rfl
@[simp] theorem State.setBuffer_pending (s : State) (b : List RequestEntry) :
    (s.setBuffer b).pending = s.pending := rfl

@[simp] theorem State.setReceiver_clock (s : State) (r : Receiver) : (s.setReceiver r).clock = s.clock := rfl
@[simp] theorem State.setReceiver_gates (s : State) (r : Receiver) : (s.setReceiver r).gates = s.gates := rfl
@[simp] theorem State.setReceiver_crossings (s : State) (r : Receiver) :
    (s.setReceiver r).crossings = s.crossings := rfl
@[simp] theorem State.setReceiver_tracker (s : State) (r : Receiver) : (s.setReceiver r).tracker = s.tracker := rfl
@[simp] theorem State.setReceiver_link (s : State) (r : Receiver) :
    (s.setReceiver r).link = { s.link with receiver := r } := rfl
@[simp] theorem State.setReceiver_session (s : State) (r : Receiver) : (s.setReceiver r).session = s.session := rfl
@[simp] theorem State.setReceiver_pins (s : State) (r : Receiver) : (s.setReceiver r).pins = s.pins := rfl
@[simp] theorem State.setReceiver_instant (s : State) (r : Receiver) : (s.setReceiver r).instant = s.instant := rfl
@[simp] theorem State.setReceiver_meetings (s : State) (r : Receiver) : (s.setReceiver r).meetings = s.meetings := rfl
@[simp] theorem State.setReceiver_pending (s : State) (r : Receiver) : (s.setReceiver r).pending = s.pending := rfl

@[simp] theorem State.countBadFrame_clock (s : State) : (s.countBadFrame).clock = s.clock := rfl
@[simp] theorem State.countBadFrame_gates (s : State) : (s.countBadFrame).gates = s.gates := rfl
@[simp] theorem State.countBadFrame_crossings (s : State) : (s.countBadFrame).crossings = s.crossings := rfl
@[simp] theorem State.countBadFrame_tracker (s : State) : (s.countBadFrame).tracker = s.tracker := rfl
@[simp] theorem State.countBadFrame_link (s : State) :
    (s.countBadFrame).link = { s.link with badFrames := s.link.badFrames.saturatingSucc } := rfl
@[simp] theorem State.countBadFrame_session (s : State) : (s.countBadFrame).session = s.session := rfl
@[simp] theorem State.countBadFrame_pins (s : State) : (s.countBadFrame).pins = s.pins := rfl
@[simp] theorem State.countBadFrame_instant (s : State) : (s.countBadFrame).instant = s.instant := rfl
@[simp] theorem State.countBadFrame_meetings (s : State) : (s.countBadFrame).meetings = s.meetings := rfl
@[simp] theorem State.countBadFrame_pending (s : State) : (s.countBadFrame).pending = s.pending := rfl

@[simp] theorem State.characterSeen_clock (s : State) : (s.characterSeen).clock = s.clock := rfl
@[simp] theorem State.characterSeen_gates (s : State) : (s.characterSeen).gates = s.gates := rfl
@[simp] theorem State.characterSeen_crossings (s : State) : (s.characterSeen).crossings = s.crossings := rfl
@[simp] theorem State.characterSeen_tracker (s : State) : (s.characterSeen).tracker = s.tracker := rfl
@[simp] theorem State.characterSeen_link (s : State) :
    (s.characterSeen).link = { s.link with lastCharacter := s.instant } := rfl
@[simp] theorem State.characterSeen_session (s : State) : (s.characterSeen).session = s.session := rfl
@[simp] theorem State.characterSeen_pins (s : State) : (s.characterSeen).pins = s.pins := rfl
@[simp] theorem State.characterSeen_instant (s : State) : (s.characterSeen).instant = s.instant := rfl
@[simp] theorem State.characterSeen_meetings (s : State) : (s.characterSeen).meetings = s.meetings := rfl
@[simp] theorem State.characterSeen_pending (s : State) : (s.characterSeen).pending = s.pending := rfl

@[simp] theorem State.takeRequest_clock (s : State) : (s.takeRequest).clock = s.clock := rfl
@[simp] theorem State.takeRequest_gates (s : State) : (s.takeRequest).gates = s.gates := rfl
@[simp] theorem State.takeRequest_crossings (s : State) : (s.takeRequest).crossings = s.crossings := rfl
@[simp] theorem State.takeRequest_tracker (s : State) : (s.takeRequest).tracker = s.tracker := rfl
@[simp] theorem State.takeRequest_link (s : State) :
    (s.takeRequest).link = { s.link with buffer := replaceFirst (·.isWaiting) (fun e => { e with state := .executing }) s.link.buffer } := rfl
@[simp] theorem State.takeRequest_session (s : State) : (s.takeRequest).session = s.session := rfl
@[simp] theorem State.takeRequest_pins (s : State) : (s.takeRequest).pins = s.pins := rfl
@[simp] theorem State.takeRequest_instant (s : State) : (s.takeRequest).instant = s.instant := rfl
@[simp] theorem State.takeRequest_meetings (s : State) : (s.takeRequest).meetings = s.meetings := rfl
@[simp] theorem State.takeRequest_pending (s : State) : (s.takeRequest).pending = s.pending := rfl

@[simp] theorem State.dropHand_clock (s : State) : (s.dropHand).clock = s.clock := rfl
@[simp] theorem State.dropHand_gates (s : State) : (s.dropHand).gates = s.gates := rfl
@[simp] theorem State.dropHand_crossings (s : State) : (s.dropHand).crossings = s.crossings := rfl
@[simp] theorem State.dropHand_tracker (s : State) : (s.dropHand).tracker = s.tracker := rfl
@[simp] theorem State.dropHand_link (s : State) : (s.dropHand).link = { s.link with inHand := none } := rfl
@[simp] theorem State.dropHand_session (s : State) : (s.dropHand).session = s.session := rfl
@[simp] theorem State.dropHand_pins (s : State) : (s.dropHand).pins = s.pins := rfl
@[simp] theorem State.dropHand_instant (s : State) : (s.dropHand).instant = s.instant := rfl
@[simp] theorem State.dropHand_meetings (s : State) : (s.dropHand).meetings = s.meetings := rfl
@[simp] theorem State.dropHand_pending (s : State) : (s.dropHand).pending = s.pending := rfl

@[simp] theorem State.freeTransmitter_clock (s : State) : (s.freeTransmitter).clock = s.clock := rfl
@[simp] theorem State.freeTransmitter_gates (s : State) : (s.freeTransmitter).gates = s.gates := rfl
@[simp] theorem State.freeTransmitter_crossings (s : State) : (s.freeTransmitter).crossings = s.crossings := rfl
@[simp] theorem State.freeTransmitter_tracker (s : State) : (s.freeTransmitter).tracker = s.tracker := rfl
@[simp] theorem State.freeTransmitter_link (s : State) :
    (s.freeTransmitter).link = { s.link with transmitter := .free, openChoice := !s.link.replyPresent } := rfl
@[simp] theorem State.freeTransmitter_session (s : State) : (s.freeTransmitter).session = s.session := rfl
@[simp] theorem State.freeTransmitter_pins (s : State) : (s.freeTransmitter).pins = s.pins := rfl
@[simp] theorem State.freeTransmitter_instant (s : State) : (s.freeTransmitter).instant = s.instant := rfl
@[simp] theorem State.freeTransmitter_meetings (s : State) : (s.freeTransmitter).meetings = s.meetings := rfl
@[simp] theorem State.freeTransmitter_pending (s : State) : (s.freeTransmitter).pending = s.pending := rfl

@[simp] theorem State.beginFrame_clock (s : State) (t : Transmitter) : (s.beginFrame t).clock = s.clock := rfl
@[simp] theorem State.beginFrame_gates (s : State) (t : Transmitter) : (s.beginFrame t).gates = s.gates := rfl
@[simp] theorem State.beginFrame_crossings (s : State) (t : Transmitter) :
    (s.beginFrame t).crossings = s.crossings := rfl
@[simp] theorem State.beginFrame_tracker (s : State) (t : Transmitter) : (s.beginFrame t).tracker = s.tracker := rfl
@[simp] theorem State.beginFrame_link (s : State) (t : Transmitter) :
    (s.beginFrame t).link = { s.link with transmitter := t, openChoice := false } := rfl
@[simp] theorem State.beginFrame_session (s : State) (t : Transmitter) : (s.beginFrame t).session = s.session := rfl
@[simp] theorem State.beginFrame_pins (s : State) (t : Transmitter) : (s.beginFrame t).pins = s.pins := rfl
@[simp] theorem State.beginFrame_instant (s : State) (t : Transmitter) : (s.beginFrame t).instant = s.instant := rfl
@[simp] theorem State.beginFrame_meetings (s : State) (t : Transmitter) :
    (s.beginFrame t).meetings = s.meetings := rfl
@[simp] theorem State.beginFrame_pending (s : State) (t : Transmitter) : (s.beginFrame t).pending = s.pending := rfl

@[simp] theorem State.meet_clock (s : State) : (s.meet).clock = s.clock := rfl
@[simp] theorem State.meet_gates (s : State) : (s.meet).gates = s.gates := rfl
@[simp] theorem State.meet_crossings (s : State) : (s.meet).crossings = s.crossings := rfl
@[simp] theorem State.meet_tracker (s : State) : (s.meet).tracker = s.tracker := rfl
@[simp] theorem State.meet_link (s : State) : (s.meet).link = s.link := rfl
@[simp] theorem State.meet_session (s : State) : (s.meet).session = s.session := rfl
@[simp] theorem State.meet_pins (s : State) : (s.meet).pins = s.pins := rfl
@[simp] theorem State.meet_instant (s : State) : (s.meet).instant = s.instant := rfl
@[simp] theorem State.meet_meetings (s : State) : (s.meet).meetings = s.meetings + 1 := rfl
@[simp] theorem State.meet_pending (s : State) : (s.meet).pending = s.pending := rfl

/-! ## Reading back -/

@[simp] theorem State.gate_setGate_same (s : State) (g : Gate) (u : GateUnit) : (s.setGate g u).gate g = u := by
  simp [State.gate, State.setGate]

@[simp] theorem State.setGate_setGate (s : State) (g : Gate) (u v : GateUnit) :
    (s.setGate g u).setGate g v = s.setGate g v := by
  simp [State.setGate]

theorem State.gate_setGate_ne (s : State) {g h : Gate} (u : GateUnit) (hne : g ≠ h) :
    (s.setGate g u).gate h = s.gate h := by
  have : (g : Nat) ≠ (h : Nat) := fun e => hne (Fin.ext e)
  simp [State.gate, State.setGate, Vector.getElem_set_ne, this]

theorem State.gate_setGate (s : State) (g h : Gate) (u : GateUnit) :
    (s.setGate g u).gate h = if g = h then u else s.gate h := by
  by_cases e : g = h
  · subst e; simp
  · simp [e, State.gate_setGate_ne]

@[simp] theorem State.run_setRun_same (s : State) (i : Slot) (r : Option Run) : (s.setRun i r).run i = r := by
  simp [State.run, State.setRun]

theorem State.run_setRun_ne (s : State) {i j : Slot} (r : Option Run) (hne : i ≠ j) :
    (s.setRun i r).run j = s.run j := by
  have : (i : Nat) ≠ (j : Nat) := fun e => hne (Fin.ext e)
  simp [State.run, State.setRun, Vector.getElem_set_ne, this]

theorem State.run_setRun (s : State) (i j : Slot) (r : Option Run) :
    (s.setRun i r).run j = if i = j then r else s.run j := by
  by_cases e : i = j
  · subst e; simp
  · simp [e, State.run_setRun_ne]

@[simp] theorem State.queue_setQueues (s : State) (qs : List (List Slot)) (k : Nat) :
    (s.setQueues qs).queue k = qs.getD k [] := rfl

@[simp] theorem State.gate_report (s : State) (b : ReportBody) (g' : Gate) : (s.report b).gate g' = s.gate g' := rfl
@[simp] theorem State.run_report (s : State) (b : ReportBody) (i' : Slot) : (s.report b).run i' = s.run i' := rfl
@[simp] theorem State.queue_report (s : State) (b : ReportBody) (k' : Nat) : (s.report b).queue k' = s.queue k' := rfl
@[simp] theorem State.run_setGate (s : State) (g : Gate) (u : GateUnit) (i' : Slot) : (s.setGate g u).run i' = s.run i' := rfl
@[simp] theorem State.queue_setGate (s : State) (g : Gate) (u : GateUnit) (k' : Nat) : (s.setGate g u).queue k' = s.queue k' := rfl
@[simp] theorem State.gate_setRun (s : State) (i : Slot) (r : Option Run) (g' : Gate) : (s.setRun i r).gate g' = s.gate g' := rfl
@[simp] theorem State.queue_setRun (s : State) (i : Slot) (r : Option Run) (k' : Nat) : (s.setRun i r).queue k' = s.queue k' := rfl
@[simp] theorem State.gate_setQueues (s : State) (qs : List (List Slot)) (g' : Gate) : (s.setQueues qs).gate g' = s.gate g' := rfl
@[simp] theorem State.run_setQueues (s : State) (qs : List (List Slot)) (i' : Slot) : (s.setQueues qs).run i' = s.run i' := rfl
@[simp] theorem State.gate_setUnassigned (s : State) (es : List UnassignedEntry) (g' : Gate) : (s.setUnassigned es).gate g' = s.gate g' := rfl
@[simp] theorem State.run_setUnassigned (s : State) (es : List UnassignedEntry) (i' : Slot) : (s.setUnassigned es).run i' = s.run i' := rfl
@[simp] theorem State.queue_setUnassigned (s : State) (es : List UnassignedEntry) (k' : Nat) : (s.setUnassigned es).queue k' = s.queue k' := rfl
@[simp] theorem State.gate_setSession (s : State) (ss : Session) (g' : Gate) : (s.setSession ss).gate g' = s.gate g' := rfl
@[simp] theorem State.run_setSession (s : State) (ss : Session) (i' : Slot) : (s.setSession ss).run i' = s.run i' := rfl
@[simp] theorem State.queue_setSession (s : State) (ss : Session) (k' : Nat) : (s.setSession ss).queue k' = s.queue k' := rfl
@[simp] theorem State.gate_setLink (s : State) (l : LinkController) (g' : Gate) : (s.setLink l).gate g' = s.gate g' := rfl
@[simp] theorem State.run_setLink (s : State) (l : LinkController) (i' : Slot) : (s.setLink l).run i' = s.run i' := rfl
@[simp] theorem State.queue_setLink (s : State) (l : LinkController) (k' : Nat) : (s.setLink l).queue k' = s.queue k' := rfl
@[simp] theorem State.gate_setBuffer (s : State) (b : List RequestEntry) (g' : Gate) : (s.setBuffer b).gate g' = s.gate g' := rfl
@[simp] theorem State.run_setBuffer (s : State) (b : List RequestEntry) (i' : Slot) : (s.setBuffer b).run i' = s.run i' := rfl
@[simp] theorem State.queue_setBuffer (s : State) (b : List RequestEntry) (k' : Nat) : (s.setBuffer b).queue k' = s.queue k' := rfl
@[simp] theorem State.gate_setReceiver (s : State) (r : Receiver) (g' : Gate) : (s.setReceiver r).gate g' = s.gate g' := rfl
@[simp] theorem State.run_setReceiver (s : State) (r : Receiver) (i' : Slot) : (s.setReceiver r).run i' = s.run i' := rfl
@[simp] theorem State.queue_setReceiver (s : State) (r : Receiver) (k' : Nat) : (s.setReceiver r).queue k' = s.queue k' := rfl
@[simp] theorem State.gate_countBadFrame (s : State) (g' : Gate) : (s.countBadFrame).gate g' = s.gate g' := rfl
@[simp] theorem State.run_countBadFrame (s : State) (i' : Slot) : (s.countBadFrame).run i' = s.run i' := rfl
@[simp] theorem State.queue_countBadFrame (s : State) (k' : Nat) : (s.countBadFrame).queue k' = s.queue k' := rfl
@[simp] theorem State.gate_characterSeen (s : State) (g' : Gate) : (s.characterSeen).gate g' = s.gate g' := rfl
@[simp] theorem State.run_characterSeen (s : State) (i' : Slot) : (s.characterSeen).run i' = s.run i' := rfl
@[simp] theorem State.queue_characterSeen (s : State) (k' : Nat) : (s.characterSeen).queue k' = s.queue k' := rfl
@[simp] theorem State.gate_takeRequest (s : State) (g' : Gate) : (s.takeRequest).gate g' = s.gate g' := rfl
@[simp] theorem State.run_takeRequest (s : State) (i' : Slot) : (s.takeRequest).run i' = s.run i' := rfl
@[simp] theorem State.queue_takeRequest (s : State) (k' : Nat) : (s.takeRequest).queue k' = s.queue k' := rfl
@[simp] theorem State.gate_dropHand (s : State) (g' : Gate) : (s.dropHand).gate g' = s.gate g' := rfl
@[simp] theorem State.run_dropHand (s : State) (i' : Slot) : (s.dropHand).run i' = s.run i' := rfl
@[simp] theorem State.queue_dropHand (s : State) (k' : Nat) : (s.dropHand).queue k' = s.queue k' := rfl
@[simp] theorem State.gate_freeTransmitter (s : State) (g' : Gate) : (s.freeTransmitter).gate g' = s.gate g' := rfl
@[simp] theorem State.run_freeTransmitter (s : State) (i' : Slot) : (s.freeTransmitter).run i' = s.run i' := rfl
@[simp] theorem State.queue_freeTransmitter (s : State) (k' : Nat) : (s.freeTransmitter).queue k' = s.queue k' := rfl
@[simp] theorem State.gate_beginFrame (s : State) (t : Transmitter) (g' : Gate) : (s.beginFrame t).gate g' = s.gate g' := rfl
@[simp] theorem State.run_beginFrame (s : State) (t : Transmitter) (i' : Slot) : (s.beginFrame t).run i' = s.run i' := rfl
@[simp] theorem State.queue_beginFrame (s : State) (t : Transmitter) (k' : Nat) : (s.beginFrame t).queue k' = s.queue k' := rfl
@[simp] theorem State.gate_meet (s : State) (g' : Gate) : (s.meet).gate g' = s.gate g' := rfl
@[simp] theorem State.run_meet (s : State) (i' : Slot) : (s.meet).run i' = s.run i' := rfl
@[simp] theorem State.queue_meet (s : State) (k' : Nat) : (s.meet).queue k' = s.queue k' := rfl

end Sys2Proof.Machine
end

