-- ==== Sys2Proof/Laws/Serve.lean ====
section
/-! SUPPORT. One request from take to reply, said once: a request in front is answered at its entry, and its owner's act
is what it does to a state whose request buffer it neither reads nor writes. -/

namespace Sys2Proof.Machine

@[simp] theorem State.live_high {s : State} (h : s.pins.resetLow = false) (f : State → State) : s.live f = f s := by
  simp [State.live, h]

theorem State.live_low {s : State} (h : s.pins.resetLow = true) (f : State → State) : s.live f = s := by
  simp [State.live, h]

/-- Taking the first WAITING request and then rewriting the request in hand rewrites that entry, when no other request
is in hand. -/
theorem replaceFirst_executing (f : RequestEntry → RequestEntry) (b : List RequestEntry)
    (h : b.any (·.isExecuting) = false) :
    replaceFirst (·.isExecuting) f (replaceFirst (·.isWaiting) (fun e => { e with state := .executing }) b) =
      replaceFirst (·.isWaiting) (fun e => f { e with state := .executing }) b := by
  induction b with
  | nil => rfl
  | cons e es ih =>
    simp only [List.any_cons, Bool.or_eq_false_iff] at h
    by_cases hw : e.isWaiting = true
    · simp [replaceFirst, hw, RequestEntry.isExecuting]
    · simp [replaceFirst, hw, h.1, ih h.2]

theorem State.nextRequest_some {s : State} {r : RequestEntry} (h : s.nextRequest = some r) :
    s.resetDecided = false ∧ s.link.buffer.any (·.isExecuting) = false
      ∧ s.link.buffer.find? (·.isWaiting) = some r ∧ s.link.inHand = none := by
  unfold State.nextRequest at h
  split at h
  · cases h
  · next hn =>
    simp only [LinkController.holdsRequest, Bool.or_eq_true, not_or, Bool.not_eq_true, Option.isSome_eq_false_iff,
      Option.isNone_iff_eq_none] at hn
    exact ⟨hn.1, hn.2.1, h, hn.2.2⟩

/-- Taking a request and replying to it is answering it. -/
theorem State.takeRequest_reply {s : State} (h : s.link.buffer.any (·.isExecuting) = false) (t : State)
    (ht : t.link = s.takeRequest.link) (r : Response) : t.reply r = t.setLink (s.link.answer r) := by
  simp only [State.reply, State.setBuffer, ht, State.takeRequest_link]
  rw [replaceFirst_executing _ _ h]
  rfl

/-- An owner's act neither reads nor writes the Link Controller. -/
abbrev IgnoresLink {α : Type} (act : State → α → State × Response) : Prop :=
  ∀ s l a, act (State.setLink s l) a = ((act s a).1.setLink l, (act s a).2)

/-- An owner's act does to the part the same whether its request still waits or is in hand. -/
abbrev ActsBeside {α : Type} (act : State → α → State × Response) (s : State) : Prop :=
  ∀ a, act s.takeRequest a = ((act s a).1.setLink s.takeRequest.link, (act s a).2)

theorem IgnoresLink.beside {α : Type} {act : State → α → State × Response} (h : IgnoresLink act) (s : State) :
    ActsBeside act s := fun a => h s s.takeRequest.link a

/-- What a request step does while a request that a link reset found in hand has not completed its effect: a step of its
kind completes it, with no reply, and no other step arises (R130). -/
theorem State.serve_hand {α : Type} {s : State} {r : RequestEntry} {mine : RequestEntry → Bool}
    {parse : List Byte → Option α} {act : State → α → State × Response}
    (hact : ∀ a, (act s.dropHand a).1 = (act s a).1.setLink { s.link with inHand := none })
    (hr : s.link.inHand = some r) :
    s.serve mine parse act =
      if mine r = true then
        ((parse r.payload).elim s fun a => (act s a).1).setLink { s.link with inHand := none }
      else s := by
  simp only [State.serve, hr]
  cases parse r.payload with
  | none => rfl
  | some a => simp only [hact a, Option.elim]

/-- An owner's act does to the part the same when the request in hand has lost its entry. -/
theorem IgnoresLink.hand {α : Type} {act : State → α → State × Response} (h : IgnoresLink act) (s : State) (a : α) :
    (act s.dropHand a).1 = (act s a).1.setLink { s.link with inHand := none } :=
  congrArg Prod.fst (h s { s.link with inHand := none } a)

/-- What a request step does when a request of its kind is in front: a generic refusal, BAD_VALUE, or the owner's act,
and in every case the reply. -/
theorem State.serve_front {α : Type} {s : State} {r : RequestEntry} {mine : RequestEntry → Bool}
    {parse : List Byte → Option α} {act : State → α → State × Response} (hact : ActsBeside act s)
    (hn : s.nextRequest = some r) (hm : mine r = true) :
    s.serve mine parse act =
      match genericRefusal s.session.state r with
      | some st => s.setLink (s.link.answer (.refuse st))
      | none =>
        match parse r.payload with
        | none => s.setLink (s.link.answer (.refuse .badValue))
        | some a => (act s a).1.setLink (s.link.answer (act s a).2) := by
  have hx := (State.nextRequest_some hn).2.1
  simp only [State.serve, (State.nextRequest_some hn).2.2.2, hn, hm, if_true]
  cases hg : genericRefusal s.session.state r with
  | some st => exact State.takeRequest_reply hx s.takeRequest rfl _
  | none =>
    cases hp : parse r.payload with
    | none => exact State.takeRequest_reply hx s.takeRequest rfl _
    | some a =>
      have e : act s.takeRequest a = ((act s a).1.setLink s.takeRequest.link, (act s a).2) :=
        hact a
      simp only [e]
      exact State.takeRequest_reply hx ((act s a).1.setLink s.takeRequest.link) rfl _

/-- A request step whose kind of request is neither in front nor left in hand changes nothing. -/
theorem State.serve_other {α : Type} {s : State} {mine : RequestEntry → Bool}
    {parse : List Byte → Option α} {act : State → α → State × Response}
    (h : ∀ r, s.nextRequest = some r → mine r = false) (hh : ∀ r, s.link.inHand = some r → mine r = false) :
    s.serve mine parse act = s := by
  unfold State.serve
  split
  · next r hr => simp [hh r hr]
  · split
    · rfl
    · next r hr => simp [h r hr]

theorem State.nextRequest_waiting {s : State} {r : RequestEntry} (h : s.nextRequest = some r) :
    r.state = .waiting := by
  have := List.find?_some (State.nextRequest_some h).2.2.1
  simpa [RequestEntry.isWaiting] using this

/-- The request in front, once the generic checks 1 to 3 have passed, through check 4 and its owner's act. -/
theorem State.live_serve {α : Type} {s : State} {code tag : Byte} {p : List Byte} {mine : RequestEntry → Bool}
    {parse : List Byte → Option α} {act : State → α → State × Response} (hact : ActsBeside act s)
    (hn : s.NextIs code tag p) (hm : mine ⟨code, tag, p, .waiting⟩ = true)
    (hf : payloadFits code p = some true) (hc : s.session.state ≠ .closed ∨ passesClosed code = true) :
    s.live (·.serve mine parse act) =
      match parse p with
      | none => s.setLink (s.link.answer (.refuse .badValue))
      | some a => (act s a).1.setLink (s.link.answer (act s a).2) := by
  have hg : genericRefusal s.session.state ⟨code, tag, p, .waiting⟩ = none := by
    rcases hc with hc | hc <;> simp [genericRefusal, hf, hc]
  rw [State.live_high hn.1, State.serve_front hact hn.2 hm, hg]

/-- The request in front, when one of the generic checks 1 to 3 refuses it. -/
theorem State.live_serve_refused {α : Type} {s : State} {r : RequestEntry} {mine : RequestEntry → Bool}
    {parse : List Byte → Option α} {act : State → α → State × Response} (hact : ActsBeside act s)
    (hl : s.pins.resetLow = false) (hn : s.nextRequest = some r) (hm : mine r = true) {st : Status}
    (hg : genericRefusal s.session.state r = some st) :
    s.live (·.serve mine parse act) = s.setLink (s.link.answer (.refuse st)) := by
  rw [State.live_high hl, State.serve_front hact hn hm, hg]

end Sys2Proof.Machine
end

