-- ==== Sys2Proof/Laws/Owners.lean ====
section
/-! SUPPORT. Every operation of an owning block commutes with a change of the Link Controller: it neither reads nor
writes it. So what a request does to the part and what its reply does to the request buffer stand apart. -/

namespace Sys2Proof.Machine

theorem foldl_setLink {β : Type} (f : State → β → State) (l : LinkController)
    (hf : ∀ s b, f (State.setLink s l) b = (f s b).setLink l) (bs : List β) (s : State) :
    bs.foldl f (s.setLink l) = (bs.foldl f s).setLink l := by
  induction bs generalizing s with
  | nil => rfl
  | cons b bs ih => simp only [List.foldl_cons, hf, ih]

theorem State.fileCrossing_setLink (s : State) (l : LinkController) (c : Crossing) (why : FilingReason) :
    (s.setLink l).fileCrossing c why = (s.fileCrossing c why).setLink l := by
  unfold State.fileCrossing
  simp only [State.setLink_tracker]
  split
  · split <;> rfl
  · rfl

theorem State.endOverTime_setLink (s : State) (l : LinkController) (i : Slot) :
    (s.setLink l).endOverTime i = (s.endOverTime i).setLink l := by
  unfold State.endOverTime
  simp only [State.run_setLink]
  repeat' split
  all_goals rfl

theorem State.startRun_setLink (s : State) (l : LinkController) (i : Slot) (o : SplitOrigin) (t : Tick) (h : Bool) :
    (s.setLink l).startRun i o t h = (s.startRun i o t h).setLink l := by
  unfold State.startRun
  simp only [State.run_setLink]
  repeat' split
  all_goals rfl

theorem State.addSplit_setLink (s : State) (l : LinkController) (i : Slot) (c : Crossing) (h : Bool) :
    (s.setLink l).addSplit i c h = (s.addSplit i c h).setLink l := by
  unfold State.addSplit
  simp only [State.run_setLink]
  split
  · next r _ =>
    by_cases h : r.awaitedStep + 1 < r.stepCount
    · simp only [h, if_true]; rfl
    · simp only [h, if_false]; rfl
  · rfl

theorem State.advance_setLink (s : State) (l : LinkController) (i : Slot) (c : Crossing) (h : Bool) :
    (s.setLink l).advance i c h = (s.advance i c h).setLink l := by
  unfold State.advance
  simp only [State.run_setLink, State.startRun_setLink, State.addSplit_setLink]
  split
  · split <;> rfl
  · rfl

theorem State.examineDeadlines_setLink (s : State) (l : LinkController) :
    (s.setLink l).examineDeadlines = s.examineDeadlines.setLink l :=
  foldl_setLink _ l (fun s i => s.endOverTime_setLink l i) _ s

theorem State.groupStart_setLink (s : State) (l : LinkController) (t : Tick) :
    (s.setLink l).groupStart t = (s.groupStart t).setLink l := by
  unfold State.groupStart
  rw [State.queue_setLink, foldl_setLink _ l (fun s i => s.startRun_setLink l i .group t false),
    State.examineDeadlines_setLink]

theorem State.clockStartEvent_setLink (s : State) (l : LinkController) (t : Tick) :
    (s.setLink l).clockStartEvent t = (s.clockStartEvent t).setLink l := by
  unfold State.clockStartEvent
  simp only [State.setLink_tracker, State.queue_setLink, State.groupStart_setLink]
  split
  · split <;> rfl
  · rfl

theorem State.departure_setLink (s : State) (l : LinkController) (why : ReleaseCause) :
    (s.setLink l).departure why = (s.departure why).setLink l := by
  unfold State.departure
  simp only [State.setLink_tracker]
  repeat' split
  all_goals rfl

theorem State.setLink_setSession (s : State) (l : LinkController) (ss : Session) :
    (s.setLink l).setSession ss = (s.setSession ss).setLink l := rfl

theorem State.leaveSession_setLink (s : State) (l : LinkController) (n : SessionState) (why : ReleaseCause) :
    (s.setLink l).leaveSession n why = (s.leaveSession n why).setLink l := by
  unfold State.leaveSession
  simp only [State.setLink_session, State.setLink_setSession, State.departure_setLink]
  repeat' split
  all_goals rfl

theorem State.appendCrossing_setLink (s : State) (l : LinkController) (g : Gate) (t : Tick) (src : CrossingSource) :
    (s.setLink l).appendCrossing g t src = (s.appendCrossing g t src).setLink l := by
  unfold State.appendCrossing
  simp only [State.gate_setLink]
  repeat' split
  all_goals first | rfl | (simp_all; rfl)

/-! ## The owners' acts -/

theorem disableGate_ignoresLink : IgnoresLink State.disableGate := fun _ _ _ => rfl

theorem enableGate_ignoresLink : IgnoresLink State.enableGate := by
  intro s l a
  unfold State.enableGate
  simp only [State.gate_setLink]
  repeat' split
  all_goals first | rfl | simp_all

theorem readGate_ignoresLink : IgnoresLink State.readGate := by
  intro s l a
  unfold State.readGate
  repeat' split
  all_goals rfl

theorem armClock_ignoresLink : IgnoresLink State.armClock := by
  intro s l g
  unfold State.armClock
  simp only [State.setLink_clock]
  split <;> (try split) <;> simp_all [State.gateEnabled, State.changeClock]; rfl

theorem disarmClock_ignoresLink : IgnoresLink State.disarmClock := by
  intro s l g
  unfold State.disarmClock
  simp only [State.setLink_clock]
  repeat' split
  all_goals rfl

theorem startClock_ignoresLink : IgnoresLink State.startClock := by
  intro s l p
  unfold State.startClock
  simp only [State.setLink_clock]
  split
  · show ((((s.changeClock .running p .request).setLink l).clockStartEvent p), Response.ok) = _
    rw [State.clockStartEvent_setLink]
  all_goals rfl

theorem haltClock_ignoresLink : IgnoresLink State.haltClock := by
  intro s l p
  unfold State.haltClock
  simp only [State.setLink_clock]
  repeat' split
  all_goals rfl

theorem resumeClock_ignoresLink : IgnoresLink State.resumeClock := by
  intro s l p
  unfold State.resumeClock
  simp only [State.setLink_clock]
  repeat' split
  all_goals first | rfl | (rename_i h; simp only [h, if_true, if_false]; rfl) | simp_all

theorem State.anyRun_setLink (s : State) (l : LinkController) (p : Run → Bool) :
    (s.setLink l).anyRun p = s.anyRun p := rfl

theorem State.clear_setLink (s : State) (l : LinkController) :
    (s.setLink l).clear = (s.clear.1.setLink l, s.clear.2) := by
  unfold State.clear
  simp only [State.setLink_clock]
  split <;> rfl

theorem clearClock_ignoresLink : IgnoresLink State.clearClock := by
  intro s l p
  unfold State.clearClock
  simp only [State.setLink_clock, State.anyRun_setLink, State.setLink_crossings, State.clear_setLink]
  by_cases h : s.anyRun (fun r => r.state == .onCourse) = true <;> by_cases h' : s.crossings.records = [] <;>
    simp only [h, h', ne_eq, not_true_eq_false, not_false_eq_true, if_true, if_false] <;> split <;> rfl

theorem readClock_ignoresLink : IgnoresLink State.readClock := fun _ _ _ => rfl

theorem holdAssignment_ignoresLink : IgnoresLink State.holdAssignment := by
  intro s l p
  unfold State.holdAssignment
  simp only [State.setLink_session]
  repeat' split
  all_goals first | rfl | (rename_i h; simp only [h, if_true, if_false]; rfl) | simp_all

theorem releaseAssignment_ignoresLink : IgnoresLink State.releaseAssignment := fun _ _ _ => rfl

theorem readQueue_ignoresLink : IgnoresLink State.readQueue := by
  intro s l k
  unfold State.readQueue
  simp only [State.setLink_tracker]
  repeat' split
  all_goals rfl

theorem readUnassigned_ignoresLink : IgnoresLink State.readUnassigned := fun _ _ _ => rfl

theorem manualCrossing_ignoresLink : IgnoresLink State.manualCrossing := by
  intro s l a
  unfold State.manualCrossing
  simp only [State.setLink_clock, State.setLink_crossings, State.appendCrossing_setLink]
  repeat' split
  all_goals rfl

theorem setCourse_ignoresLink : IgnoresLink State.setCourse := by
  intro s l c
  by_cases h : s.anyRun (fun r => r.state.active) = true
  · rw [show s.setCourse c = (s, .refuse .courseInUse) from if_pos h]
    exact if_pos h
  · by_cases h' : s.anyRun (fun r => r.courseNumber == c.number) = true ∧ s.tracker.course ≠ some c
    · rw [show s.setCourse c = (s, .refuse .courseInUse) from (if_neg h).trans (if_pos h')]
      exact (if_neg h).trans (if_pos h')
    · rw [show s.setCourse c = _ from (if_neg h).trans (if_neg h')]
      exact (if_neg h).trans (if_neg h')

theorem getCourse_ignoresLink : IgnoresLink State.getCourse := by
  intro s l c
  unfold State.getCourse
  simp only [State.setLink_tracker]
  repeat' split
  all_goals rfl

theorem State.findRun_setLink (s : State) (l : LinkController) (n : Word) :
    (s.setLink l).findRun n = s.findRun n := rfl

theorem State.freeSlot_setLink (s : State) (l : LinkController) : (s.setLink l).freeSlot = s.freeSlot := rfl

theorem stageRun_ignoresLink : IgnoresLink State.stageRun := by
  intro s l n
  unfold State.stageRun
  simp only [State.setLink_tracker, State.findRun_setLink, State.freeSlot_setLink]
  split
  · rfl
  · by_cases h : (s.findRun n).isSome = true
    · simp only [h, if_true]
    · simp only [Bool.not_eq_true] at h
      simp only [h, Bool.false_eq_true, if_false]
      split <;> rfl

theorem withdrawRun_ignoresLink : IgnoresLink State.withdrawRun := by
  intro s l n
  unfold State.withdrawRun
  simp only [State.findRun_setLink]
  repeat' split
  all_goals rfl

theorem releaseRun_ignoresLink : IgnoresLink State.releaseRun := by
  intro s l n
  unfold State.releaseRun
  simp only [State.findRun_setLink]
  repeat' split
  all_goals rfl

theorem startGroup_ignoresLink : IgnoresLink State.startGroup := by
  intro s l t
  unfold State.startGroup
  simp only [State.setLink_tracker, State.setLink_clock, State.queue_setLink, State.groupStart_setLink]
  repeat' split
  all_goals rfl

theorem readRun_ignoresLink : IgnoresLink State.readRun := by
  intro s l n
  unfold State.readRun
  simp only [State.findRun_setLink]
  repeat' split
  all_goals rfl

theorem listRuns_ignoresLink : IgnoresLink State.listRuns := fun _ _ _ => rfl

theorem swapRuns_ignoresLink : IgnoresLink State.swapRuns := by
  intro s l a
  unfold State.swapRuns
  simp only [State.setLink_tracker, State.findRun_setLink, State.queue_setLink]
  split
  · rfl
  · next c _ =>
    by_cases h : c.steps.length ≤ a.1
    · simp only [h, if_true]
    by_cases h' : a.2.1 = a.2.2
    · simp only [h, h', if_true, if_false]
    simp only [h, h', if_false]
    split
    · next i _ j _ _ _ =>
      by_cases h'' : i ∈ s.queue a.1 ∧ j ∈ s.queue a.1
      · simp only [h'', and_self, if_true]; rfl
      · simp only [h'', if_false]
    all_goals rfl

theorem assignCrossing_ignoresLink : IgnoresLink State.assignCrossing := by
  intro s l a
  unfold State.assignCrossing
  simp only [show (s.setLink l).entryWithId a.1 = s.entryWithId a.1 from rfl, State.findRun_setLink]
  split
  · rfl
  · split
    · rfl
    · simp only [show ∀ r c, (s.setLink l).assignRefusal r c = s.assignRefusal r c from fun _ _ => rfl]
      split
      · rfl
      · next i _ _ _ _ =>
        have h : ∀ c, (((s.setLink l).removeEntry a.1).advance i c true).markCorrected i =
            (((s.removeEntry a.1).advance i c true).markCorrected i).setLink l := by
          intro c
          show (((s.removeEntry a.1).setLink l).advance i c true).markCorrected i = _
          rw [State.advance_setLink]
          rfl
        dsimp only
        rw [h, State.examineDeadlines_setLink]
        repeat' split
        all_goals rfl

theorem voidSplit_ignoresLink : IgnoresLink State.voidSplit := by
  intro s l n
  unfold State.voidSplit
  simp only [State.findRun_setLink, show ∀ r, (s.setLink l).voidRefusal r = s.voidRefusal r from fun _ => rfl]
  have h : ∀ i r j sp, (s.setLink l).voidLast i r j sp = (s.voidLast i r j sp).setLink l := by
    intro i r j sp
    unfold State.voidLast
    have e : (((s.setLink l).dequeue i).joinHead j i).setRun i (some (r.voided j)) =
        (((s.dequeue i).joinHead j i).setRun i (some (r.voided j))).setLink l := rfl
    rw [e]
    cases sp.crossing? with
    | none => rfl
    | some c => exact State.fileCrossing_setLink _ _ _ _
  split
  · rfl
  · split
    · rfl
    · rfl
    · rw [h]

theorem discardCrossing_ignoresLink : IgnoresLink State.discardCrossing := by
  intro s l a
  unfold State.discardCrossing
  simp only [show (s.setLink l).entryWithId a = s.entryWithId a from rfl]
  repeat' split
  all_goals rfl

theorem openSession_ignoresLink : IgnoresLink State.openSession := fun _ _ _ => rfl

theorem closeSession_ignoresLink : IgnoresLink State.closeSession := by
  intro s l _
  show ((s.setLink l).leaveSession _ _, Response.ok) = _
  rw [State.leaveSession_setLink]
  rfl

theorem status_actsBeside (s : State) : ActsBeside State.status s := fun _ => rfl
theorem ping_ignoresLink : IgnoresLink State.ping := fun _ _ _ => rfl
theorem resetPart_ignoresLink : IgnoresLink State.resetPart := fun _ _ _ => rfl
theorem noOwner_ignoresLink : IgnoresLink State.noOwner := fun _ _ _ => rfl

end Sys2Proof.Machine
end

