-- ==== Sys2Proof/Laws/Hand.lean ====
section
/-! SUPPORT. The owner of a request other than OPEN SESSION, CLOSE SESSION and HOLD ASSIGNMENT does the same to the part
in every session state, but for a reply: the request that a link reset found in hand has, in the CLOSED session, the effect
that it has in an OPEN one (R130). -/

namespace Sys2Proof.Machine

/-- The state with the session in the state given, and all else of the session as it is. -/
def State.inSession (s : State) (st : SessionState) : State := s.setSession { s.session with state := st }

@[simp] theorem State.inSession_clock (s : State) (st : SessionState) : (s.inSession st).clock = s.clock := rfl
@[simp] theorem State.inSession_gates (s : State) (st : SessionState) : (s.inSession st).gates = s.gates := rfl
@[simp] theorem State.inSession_crossings (s : State) (st : SessionState) :
    (s.inSession st).crossings = s.crossings := rfl
@[simp] theorem State.inSession_tracker (s : State) (st : SessionState) : (s.inSession st).tracker = s.tracker := rfl
@[simp] theorem State.inSession_link (s : State) (st : SessionState) : (s.inSession st).link = s.link := rfl
@[simp] theorem State.inSession_session (s : State) (st : SessionState) :
    (s.inSession st).session = { s.session with state := st } := rfl
@[simp] theorem State.inSession_pins (s : State) (st : SessionState) : (s.inSession st).pins = s.pins := rfl
@[simp] theorem State.inSession_instant (s : State) (st : SessionState) : (s.inSession st).instant = s.instant := rfl
@[simp] theorem State.inSession_meetings (s : State) (st : SessionState) :
    (s.inSession st).meetings = s.meetings := rfl
@[simp] theorem State.inSession_pending (s : State) (st : SessionState) : (s.inSession st).pending = s.pending := rfl
@[simp] theorem State.run_inSession (s : State) (st : SessionState) (i : Slot) : (s.inSession st).run i = s.run i := rfl
@[simp] theorem State.gate_inSession (s : State) (st : SessionState) (g : Gate) : (s.inSession st).gate g = s.gate g := rfl
@[simp] theorem State.queue_inSession (s : State) (st : SessionState) (k : Nat) :
    (s.inSession st).queue k = s.queue k := rfl

@[simp] theorem State.inSession_self (s : State) : s.inSession s.session.state = s := rfl

theorem Session.store_state (ss : Session) (st : SessionState) (t : Tick) (b : ReportBody) :
    ({ ss with state := st }).store t b = { ss.store t b with state := st } := by
  by_cases h : ss.reports.length < Config.reportCapacity
  · simp only [Session.store, h, if_true]
  · simp only [Session.store, h, if_false]

theorem State.report_inSession (s : State) (st : SessionState) (b : ReportBody) :
    (s.inSession st).report b = (s.report b).inSession st := by
  simp only [State.report, State.inSession, State.setSession, Session.store_state]

theorem foldl_inSession {β : Type} (f : State → β → State) (st : SessionState)
    (hf : ∀ s b, f (State.inSession s st) b = (f s b).inSession st) (bs : List β) (s : State) :
    bs.foldl f (s.inSession st) = (bs.foldl f s).inSession st := by
  induction bs generalizing s with
  | nil => rfl
  | cons b bs ih => simp only [List.foldl_cons, hf, ih]

section
variable (s : State) (st : SessionState)

theorem State.setRun_inSession (i : Slot) (r : Option Run) :
    (s.inSession st).setRun i r = (s.setRun i r).inSession st := rfl
theorem State.setQueues_inSession (qs : List (List Slot)) :
    (s.inSession st).setQueues qs = (s.setQueues qs).inSession st := rfl
theorem State.setUnassigned_inSession (es : List UnassignedEntry) :
    (s.inSession st).setUnassigned es = (s.setUnassigned es).inSession st := rfl
theorem State.dequeue_inSession (i : Slot) : (s.inSession st).dequeue i = (s.dequeue i).inSession st := rfl
theorem State.joinTail_inSession (k : Nat) (i : Slot) : (s.inSession st).joinTail k i = (s.joinTail k i).inSession st := rfl
theorem State.joinHead_inSession (k : Nat) (i : Slot) : (s.inSession st).joinHead k i = (s.joinHead k i).inSession st := rfl
theorem State.staleNotice_inSession : (s.inSession st).staleNotice = s.staleNotice.inSession st := rfl
theorem State.markCorrected_inSession (i : Slot) :
    (s.inSession st).markCorrected i = (s.markCorrected i).inSession st := rfl

theorem State.changeClock_inSession (c : ClockState) (n : Tick) (why : ClockReason) :
    (s.inSession st).changeClock c n why = (s.changeClock c n why).inSession st :=
  State.report_inSession { s with clock := ⟨c, n⟩ } st _

theorem State.fileCrossing_inSession (c : Crossing) (why : FilingReason) :
    (s.inSession st).fileCrossing c why = (s.fileCrossing c why).inSession st := by
  unfold State.fileCrossing
  simp only [State.inSession_tracker]
  split
  · split
    · exact State.report_inSession (s.setUnassigned _) st _
    · simp only [State.setUnassigned_inSession, State.report_inSession, State.inSession_tracker]
  · exact State.report_inSession (s.setUnassigned _) st _

theorem State.endOverTime_inSession (i : Slot) :
    (s.inSession st).endOverTime i = (s.endOverTime i).inSession st := by
  unfold State.endOverTime
  simp only [State.run_inSession, State.dequeue_inSession, State.setRun_inSession, State.report_inSession]
  split <;> rfl

theorem State.startRun_inSession (i : Slot) (o : SplitOrigin) (t : Tick) (h : Bool) :
    (s.inSession st).startRun i o t h = (s.startRun i o t h).inSession st := by
  unfold State.startRun
  simp only [State.run_inSession, State.inSession_tracker, State.dequeue_inSession, State.setRun_inSession,
    State.joinTail_inSession, State.report_inSession]
  split <;> rfl

theorem State.addSplit_inSession (i : Slot) (c : Crossing) (h : Bool) :
    (s.inSession st).addSplit i c h = (s.addSplit i c h).inSession st := by
  unfold State.addSplit
  simp only [State.run_inSession, State.dequeue_inSession, State.setRun_inSession, State.joinTail_inSession,
    State.report_inSession]
  split
  · split <;> rfl
  · rfl

theorem State.advance_inSession (i : Slot) (c : Crossing) (h : Bool) :
    (s.inSession st).advance i c h = (s.advance i c h).inSession st := by
  unfold State.advance
  simp only [State.run_inSession, State.startRun_inSession, State.addSplit_inSession]
  split
  · split <;> rfl
  · rfl

theorem State.examineDeadlines_inSession :
    (s.inSession st).examineDeadlines = s.examineDeadlines.inSession st :=
  foldl_inSession _ st (fun s i => s.endOverTime_inSession st i) _ s

theorem State.groupStart_inSession (t : Tick) :
    (s.inSession st).groupStart t = (s.groupStart t).inSession st := by
  unfold State.groupStart
  rw [State.queue_inSession, foldl_inSession _ st (fun s i => s.startRun_inSession st i .group t false),
    State.examineDeadlines_inSession]

theorem State.clockStartEvent_inSession (t : Tick) :
    (s.inSession st).clockStartEvent t = (s.clockStartEvent t).inSession st := by
  unfold State.clockStartEvent
  simp only [State.inSession_tracker, State.queue_inSession, State.groupStart_inSession]
  split
  · split <;> rfl
  · rfl

theorem State.appendCrossing_inSession (g : Gate) (t : Tick) (src : CrossingSource) :
    (s.inSession st).appendCrossing g t src = (s.appendCrossing g t src).inSession st := by
  unfold State.appendCrossing
  simp only [State.gate_inSession, State.inSession_crossings]
  by_cases h : (s.gate g).config.rawReport = true
  · simp only [h, if_true]
    exact State.report_inSession { s with
      crossings := ⟨s.crossings.records ++ [⟨s.crossings.nextId, g, t, src⟩], s.crossings.nextId + 1⟩ } st _
  · simp only [h]
    rfl

end

/-! ## The owners' acts -/

/-- What an owner's act does to the part, but for the session's state, is the same in every session state. -/
abbrev IgnoresSession {α : Type} (act : State → α → State × Response) : Prop :=
  ∀ s st a, (act (State.inSession s st) a).1 = (act s a).1.inSession st

theorem disableGate_ignoresSession : IgnoresSession State.disableGate := fun _ _ _ => rfl

theorem enableGate_ignoresSession : IgnoresSession State.enableGate := by
  intro s st a
  unfold State.enableGate
  simp only [State.gate_inSession]
  repeat' split
  all_goals first | rfl | simp_all

theorem readGate_ignoresSession : IgnoresSession State.readGate := by
  intro s st a
  unfold State.readGate
  repeat' split
  all_goals rfl

theorem armClock_ignoresSession : IgnoresSession State.armClock := by
  intro s st g
  unfold State.armClock
  simp only [State.inSession_clock, State.gateEnabled, State.gate_inSession, State.changeClock_inSession]
  repeat' split
  all_goals first | rfl | simp_all

theorem disarmClock_ignoresSession : IgnoresSession State.disarmClock := by
  intro s st g
  unfold State.disarmClock
  simp only [State.inSession_clock, State.staleNotice_inSession, State.changeClock_inSession]
  split <;> rfl

theorem startClock_ignoresSession : IgnoresSession State.startClock := by
  intro s st p
  unfold State.startClock
  simp only [State.inSession_clock, State.changeClock_inSession, State.clockStartEvent_inSession]
  split <;> rfl

theorem haltClock_ignoresSession : IgnoresSession State.haltClock := by
  intro s st p
  unfold State.haltClock
  simp only [State.inSession_clock, State.changeClock_inSession]
  split <;> rfl

theorem resumeClock_ignoresSession : IgnoresSession State.resumeClock := by
  intro s st p
  unfold State.resumeClock
  simp only [State.inSession_clock, State.changeClock_inSession]
  repeat' split
  all_goals rfl

theorem clearClock_ignoresSession : IgnoresSession State.clearClock := by
  intro s st p
  have hc : (s.inSession st).clear.1 = s.clear.1.inSession st := by
    unfold State.clear
    simp only [State.inSession_clock, State.setUnassigned_inSession, State.staleNotice_inSession,
      State.changeClock_inSession]
    split <;> rfl
  have ha : ∀ q, (s.inSession st).anyRun q = s.anyRun q := fun _ => rfl
  unfold State.clearClock
  simp only [State.inSession_clock, ha, State.inSession_crossings]
  repeat' split
  all_goals first | rfl | simp_all

theorem readClock_ignoresSession : IgnoresSession State.readClock := fun _ _ _ => rfl
theorem releaseAssignment_ignoresSession : IgnoresSession State.releaseAssignment := fun _ _ _ => rfl
theorem readUnassigned_ignoresSession : IgnoresSession State.readUnassigned := fun _ _ _ => rfl
theorem listRuns_ignoresSession : IgnoresSession State.listRuns := fun _ _ _ => rfl
theorem ping_ignoresSession : IgnoresSession State.ping := fun _ _ _ => rfl
theorem status_ignoresSession : IgnoresSession State.status := fun _ _ _ => rfl
theorem resetPart_ignoresSession : IgnoresSession State.resetPart := fun _ _ _ => rfl

theorem readQueue_ignoresSession : IgnoresSession State.readQueue := by
  intro s st k
  unfold State.readQueue
  simp only [State.inSession_tracker]
  repeat' split
  all_goals rfl

theorem manualCrossing_ignoresSession : IgnoresSession State.manualCrossing := by
  intro s st a
  unfold State.manualCrossing
  simp only [State.inSession_clock, State.inSession_crossings, State.appendCrossing_inSession]
  repeat' split
  all_goals rfl

theorem setCourse_ignoresSession : IgnoresSession State.setCourse := by
  intro s st c
  have ha : ∀ q, (s.inSession st).anyRun q = s.anyRun q := fun _ => rfl
  unfold State.setCourse
  simp only [ha, State.inSession_tracker]
  repeat' split
  all_goals rfl

theorem getCourse_ignoresSession : IgnoresSession State.getCourse := by
  intro s st c
  unfold State.getCourse
  simp only [State.inSession_tracker]
  split <;> rfl

theorem State.findRun_inSession (s : State) (st : SessionState) (n : Word) :
    (s.inSession st).findRun n = s.findRun n := rfl

theorem stageRun_ignoresSession : IgnoresSession State.stageRun := by
  intro s st n
  have hf : (s.inSession st).freeSlot = s.freeSlot := rfl
  unfold State.stageRun
  simp only [State.inSession_tracker, State.findRun_inSession, hf]
  repeat' split
  all_goals rfl

theorem withdrawRun_ignoresSession : IgnoresSession State.withdrawRun := by
  intro s st n
  unfold State.withdrawRun
  simp only [State.findRun_inSession, State.dequeue_inSession, State.setRun_inSession, State.report_inSession]
  repeat' split
  all_goals rfl

theorem releaseRun_ignoresSession : IgnoresSession State.releaseRun := by
  intro s st n
  unfold State.releaseRun
  simp only [State.findRun_inSession]
  repeat' split
  all_goals rfl

theorem startGroup_ignoresSession : IgnoresSession State.startGroup := by
  intro s st t
  unfold State.startGroup
  simp only [State.inSession_tracker, State.inSession_clock, State.queue_inSession, State.groupStart_inSession]
  repeat' split
  all_goals rfl

theorem readRun_ignoresSession : IgnoresSession State.readRun := by
  intro s st n
  unfold State.readRun
  simp only [State.findRun_inSession]
  split <;> rfl

theorem swapRuns_ignoresSession : IgnoresSession State.swapRuns := by
  intro s st a
  unfold State.swapRuns
  simp only [State.inSession_tracker, State.findRun_inSession, State.queue_inSession]
  split
  · rfl
  · next c _ =>
    by_cases h : c.steps.length ≤ a.1
    · simp only [h, if_true]
    by_cases h' : a.2.1 = a.2.2
    · simp only [h, h', if_true, if_false]
    simp only [h, h', if_false]
    split
    · next i _ j _ _ _ =>
      by_cases h'' : i ∈ s.queue a.1 ∧ j ∈ s.queue a.1
      · simp only [h'', and_self, if_true]; rfl
      · simp only [h'', if_false]
    all_goals rfl

theorem assignCrossing_ignoresSession : IgnoresSession State.assignCrossing := by
  intro s st a
  have h1 : (s.inSession st).entryWithId a.1 = s.entryWithId a.1 := rfl
  have h2 : ∀ r c, (s.inSession st).assignRefusal r c = s.assignRefusal r c := fun _ _ => rfl
  have h3 : (s.inSession st).removeEntry a.1 = (s.removeEntry a.1).inSession st := rfl
  unfold State.assignCrossing
  simp only [h1, h2, h3, State.findRun_inSession, State.advance_inSession, State.markCorrected_inSession,
    State.examineDeadlines_inSession]
  repeat' split
  all_goals rfl

theorem voidSplit_ignoresSession : IgnoresSession State.voidSplit := by
  intro s st n
  have h1 : ∀ r, (s.inSession st).voidRefusal r = s.voidRefusal r := fun _ => rfl
  have h2 : ∀ i r j sp, (s.inSession st).voidLast i r j sp = (s.voidLast i r j sp).inSession st := by
    intro i r j sp
    unfold State.voidLast
    simp only [State.dequeue_inSession, State.joinHead_inSession, State.setRun_inSession]
    cases sp.crossing? with
    | none => rfl
    | some c => exact State.fileCrossing_inSession _ _ _ _
  unfold State.voidSplit
  simp only [h1, h2, State.findRun_inSession]
  repeat' split
  all_goals rfl

theorem discardCrossing_ignoresSession : IgnoresSession State.discardCrossing := by
  intro s st a
  have h1 : (s.inSession st).entryWithId a = s.entryWithId a := rfl
  unfold State.discardCrossing
  simp only [h1]
  split <;> rfl

/-! ## A request in hand and the same request alone in front -/

theorem State.alone_nextRequest (s : State) (r : RequestEntry) :
    (s.alone r).nextRequest = some { r with state := .waiting } := by
  simp [State.alone, State.nextRequest, State.resetDecided, LinkController.holdsRequest, RequestEntry.isWaiting,
    RequestEntry.isExecuting]

/-- What an owner's act does to the part but for the Link Controller is the same whatever the Link Controller holds. -/
abbrev EffectIgnoresLink {α : Type} (act : State → α → State × Response) : Prop :=
  ∀ s l a, (act (State.setLink s l) a).1 = (act s a).1.setLink l

theorem IgnoresLink.effect {α : Type} {act : State → α → State × Response} (h : IgnoresLink act) :
    EffectIgnoresLink act := fun s l a => congrArg Prod.fst (h s l a)

theorem status_effectIgnoresLink : EffectIgnoresLink State.status := fun _ _ _ => rfl

/-- The step of a request in hand does to the part what it does with the request alone in front of an OPEN session, but
for the session's state and the Link Controller, which only loses the request (R130). -/
theorem State.live_serve_hand {α : Type} {s : State} {r : RequestEntry} {mine : RequestEntry → Bool}
    {parse : List Byte → Option α} {act : State → α → State × Response} (hlink : EffectIgnoresLink act)
    (hsession : IgnoresSession act) (hbeside : ActsBeside act (s.alone r)) (hl : s.pins.resetLow = false)
    (hr : s.link.inHand = some r) (hf : payloadFits r.code r.payload = some true) (hm : mine r = true)
    (hw : mine { r with state := .waiting } = true) :
    s.live (·.serve mine parse act) =
      (((s.alone r).live (·.serve mine parse act)).inSession s.session.state).setLink { s.link with inHand := none } := by
  have hg : genericRefusal (s.alone r).session.state { r with state := .waiting } = none := by
    simp [genericRefusal, hf, State.alone]
  rw [State.live_high hl, State.live_high (show (s.alone r).pins.resetLow = false from hl),
    State.serve_hand (fun a => hlink s { s.link with inHand := none } a) hr, hm, if_pos rfl,
    State.serve_front hbeside (State.alone_nextRequest s r) hw, hg]
  cases parse r.payload with
  | none => rfl
  | some a =>
    have h1 : (act (s.alone r) a).1 = ((act s a).1.inSession .opened).setLink (s.alone r).link :=
      (hlink (s.inSession .opened) (s.alone r).link a).trans (by rw [hsession])
    have h2 : (act s a).1.session.state = s.session.state := by
      rw [← s.inSession_self, hsession]; rfl
    show (act s a).1.setLink _ = (((act (s.alone r) a).1.setLink _).inSession _).setLink _
    rw [h1, ← h2]
    rfl

end Sys2Proof.Machine
end

