-- ==== Sys2Proof/Laws/Operands.lean ====
section
/-! SUPPORT. What the fields of a request parse to, one lemma per field and per way it can fail. -/

namespace Sys2Proof.Machine

theorem parseGate_ofNat (g : Gate) : parseGate (BitVec.ofNat 8 g) = some g := by
  revert g; decide

theorem parseGate_none {b : Byte} (h : 7 < b.toNat) : parseGate b = none := by
  simp [parseGate, show ¬ b.toNat < 8 by omega]

theorem parseGate_some {b : Byte} (h : b.toNat < 8) : parseGate b = some ⟨b.toNat, h⟩ := by
  simp [parseGate, h]

theorem parseYesNo_none {b : Byte} (h : 1 < b.toNat) : parseYesNo b = none := by
  unfold parseYesNo
  rw [if_neg (by rintro rfl; simp at h), if_neg (by rintro rfl; simp at h)]

theorem parsePolarity_none {b : Byte} (h : 1 < b.toNat) : parsePolarity b = none := by
  unfold parsePolarity
  rw [if_neg (by rintro rfl; simp at h), if_neg (by rintro rfl; simp at h)]

theorem parseYesNo_zero : parseYesNo 0 = some false := rfl
theorem parseYesNo_one : parseYesNo 1 = some true := rfl

theorem byte_zero_or_one {b : Byte} (h : ¬ 1 < b.toNat) : b = 0 ∨ b = 1 := by
  have : b.toNat = 0 ∨ b.toNat = 1 := by omega
  rcases this with h | h
  · left; exact BitVec.eq_of_toNat_eq h
  · right; exact BitVec.eq_of_toNat_eq h

theorem parseRunNumber_zero {hi lo : Byte} (h : word16 hi lo = 0) : parseRunNumber hi lo = none := by
  simp [parseRunNumber, h]

theorem parseRunNumber_some {hi lo : Byte} (h : word16 hi lo ≠ 0) :
    parseRunNumber hi lo = some (word16 hi lo) := by
  unfold parseRunNumber
  rw [if_neg h]

theorem parseStep_none {b : Byte} (h : 11 < b.toNat) : parseStep b = none := by
  simp [parseStep, show ¬ b.toNat ≤ 11 by omega]

theorem parseStep_some {b : Byte} (h : b.toNat ≤ 11) : parseStep b = some b.toNat := by
  simp [parseStep, h]

/-- A SET GATE payload with a gate above 7 or a field out of its range of R17 (R18). -/
theorem parseSetGate_outOfRange {bg en pol q h b raw : Byte}
    (hh : 7 < bg.toNat ∨ 1 < pol.toNat ∨ q = 0 ∨ 250 < q.toNat ∨ b = 0 ∨ 60 < b.toNat ∨ 1 < raw.toNat) :
    parseSetGate [bg, en, pol, q, h, b, raw] = none := by
  unfold parseSetGate
  by_cases h1 : 7 < bg.toNat
  · simp [parseGate_none h1]
  simp only [parseGate_some (show bg.toNat < 8 by omega)]
  rcases parseYesNo en with _ | v
  · simp
  by_cases h2 : 1 < pol.toNat
  · simp [parsePolarity_none h2]
  rcases parsePolarity pol with _ | v'
  · simp
  by_cases h3 : 1 < raw.toNat
  · simp [parseYesNo_none h3]
  rcases parseYesNo raw with _ | v''
  · simp
  simp only [Option.bind_eq_bind, Option.bind_some]
  rw [if_neg]
  rintro ⟨a1, a2, a3, a4⟩
  rcases hh with h | h | h | h | h | h | h
  · omega
  · omega
  · rw [h] at a1; simp at a1
  · omega
  · rw [h] at a3; simp at a3
  · omega
  · omega

/-- A SET GATE payload with every field in its range of R17 (R18). -/
theorem parseSetGate_inRange {en pol q h b raw : Byte} {g : Gate} {cfg : GateConfig}
    (hv : parseYesNo en = some cfg.enabled)
    (hp : pol = 0 ∧ cfg.polarity = .activeLow ∨ pol = 1 ∧ cfg.polarity = .activeHigh)
    (hq : cfg.qualifyWidth = q) (h1 : 1 ≤ q.toNat) (h2 : q.toNat ≤ 250) (h3 : cfg.holdoff = h)
    (h4 : cfg.blockAlarmTime = b) (h5 : 1 ≤ b.toNat) (h6 : b.toNat ≤ 60)
    (hr : raw = 0 ∧ cfg.rawReport = false ∨ raw = 1 ∧ cfg.rawReport = true) :
    parseSetGate [BitVec.ofNat 8 g, en, pol, q, h, b, raw] = some (g, cfg) := by
  obtain ⟨c1, c2, c3, c4, c5, c6⟩ := cfg
  simp only at *
  subst hq h3 h4
  unfold parseSetGate
  simp only [parseGate_ofNat, hv]
  rcases hp with ⟨rfl, rfl⟩ | ⟨rfl, rfl⟩ <;> rcases hr with ⟨rfl, rfl⟩ | ⟨rfl, rfl⟩ <;>
    simp [parsePolarity, parseYesNo, h1, h2, h5, h6]

end Sys2Proof.Machine
end

