-- ==== Sys2Proof/Laws/Ops.lean ====
section
/-! SUPPORT. What each shared operation can do, said once: the report store, the gates and the Crossing Queue as one
record each, and the Course Tracker's operations as changes of its own state that store reports and touch nothing else. -/

namespace Sys2Proof.Machine

/-! ## Reports -/

theorem Session.store_room {ss : Session} (h : ss.reports.length < 48) (t : Tick) (b : ReportBody) :
    ss.store t b = { ss with
      reports := ss.reports ++
        [⟨ss.nextSequence, b, t, if ss.pendingLoss = 0 then none else some ss.pendingLoss, .unsent⟩]
      nextSequence := ss.nextSequence + 1
      pendingLoss := 0 } := if_pos h

theorem Session.store_full {ss : Session} (h : 48 ≤ ss.reports.length) (t : Tick) (b : ReportBody) :
    ss.store t b = { ss with pendingLoss := ss.pendingLoss.saturatingSucc } := if_neg (Nat.not_lt.mpr h)

/-- Reports stored one after another at one count. -/
def Session.storeAll (ss : Session) (t : Tick) (bs : List ReportBody) : Session := bs.foldl (fun ss b => ss.store t b) ss

@[simp] theorem Session.storeAll_nil (ss : Session) (t : Tick) : ss.storeAll t [] = ss := rfl

@[simp] theorem Session.storeAll_cons (ss : Session) (t : Tick) (b : ReportBody) (bs : List ReportBody) :
    ss.storeAll t (b :: bs) = (ss.store t b).storeAll t bs := rfl

theorem Session.storeAll_append (ss : Session) (t : Tick) (bs cs : List ReportBody) :
    ss.storeAll t (bs ++ cs) = (ss.storeAll t bs).storeAll t cs := by
  simp [Session.storeAll, List.foldl_append]

/-! ## Gates and crossings -/

theorem State.enterGateIdle_eq (s : State) (g : Gate) : s.enterGateIdle g = { s with
    gates := s.gates.set g { s.gate g with phase := .idle, alarmRaised := false }
    session := if (s.gate g).alarmRaised then s.session.store s.clock.count (.gateAlarm g .cleared) else s.session } := by
  unfold State.enterGateIdle
  cases hr : (s.gate g).alarmRaised <;> rfl

theorem State.afterAcceptance_eq (s : State) (g : Gate) (e : Instant) : s.afterAcceptance g e =
    if (s.gate g).config.holdoff.toNat = 0 then .blocked e
    else .holdoff (s.instant + 100 * (s.gate g).config.holdoff.toNat) e := by
  unfold State.afterAcceptance
  by_cases h : (s.gate g).config.holdoff = 0
  · simp [h]
  · have : (s.gate g).config.holdoff.toNat ≠ 0 := fun e => h (BitVec.eq_of_toNat_eq e)
    rw [if_neg h, if_neg this]

theorem State.appendCrossing_eq (s : State) (g : Gate) (t : Tick) (src : CrossingSource) :
    s.appendCrossing g t src = { s with
      crossings := ⟨s.crossings.records ++ [⟨s.crossings.nextId, g, t, src⟩], s.crossings.nextId + 1⟩
      session :=
        if (s.gate g).config.rawReport then s.session.store s.clock.count (.crossing ⟨s.crossings.nextId, g, t, src⟩)
        else s.session } := by
  unfold State.appendCrossing
  by_cases hr : (s.gate g).config.rawReport = true
  · simp only [hr, if_true]; rfl
  · simp only [hr]; rfl

theorem State.offerCrossing_room {s : State} (g : Gate) (t : Tick) (h : s.crossings.records.length < 32) :
    s.offerCrossing g t = { s with
      gates := s.gates.set g { s.gate g with
        counters := { (s.gate g).counters with accepted := (s.gate g).counters.accepted.saturatingSucc } }
      crossings := ⟨s.crossings.records ++ [⟨s.crossings.nextId, g, t, .sensor⟩], s.crossings.nextId + 1⟩
      session :=
        if (s.gate g).config.rawReport then
          s.session.store s.clock.count (.crossing ⟨s.crossings.nextId, g, t, .sensor⟩)
        else s.session } := by
  unfold State.offerCrossing
  rw [if_pos h]
  simp only [State.appendCrossing_eq, State.setCounters, State.gate_setGate_same]
  rfl

theorem State.offerCrossing_full {s : State} (g : Gate) (t : Tick) (h : 32 ≤ s.crossings.records.length) :
    s.offerCrossing g t = { s with
      gates := s.gates.set g { s.gate g with
        counters := { (s.gate g).counters with lost := (s.gate g).counters.lost.saturatingSucc } }
      session := s.session.store s.clock.count (.crossingLost g t) } := by
  unfold State.offerCrossing
  rw [if_neg (Nat.not_lt.mpr h)]
  rfl

/-! ## The transmitter and the gap -/

theorem LinkController.replyPresent_false {l : LinkController} :
    l.replyPresent = false ↔ l.shortReply = none ∧ ∀ e ∈ l.buffer, e.readyReply = none := by
  simp [LinkController.replyPresent]

/-- Whether a transmitter that becomes free finds no reply present, as the statements read it (R138). -/
theorem LinkController.not_replyPresent (l : LinkController) :
    (!l.replyPresent) = decide (l.shortReply = none ∧ ∀ e ∈ l.buffer, e.readyReply = none) := by
  cases h : l.replyPresent with
  | false => exact (decide_eq_true (LinkController.replyPresent_false.mp h)).symm
  | true =>
    refine (decide_eq_false fun hn => ?_).symm
    rw [LinkController.replyPresent_false.mpr hn] at h
    cases h

/-- What the tick does to a partial frame, as `LinkController.GapJudged` has it (R126). -/
theorem State.settleGap_eq (s : State) : ∃ r dropped, s.link.GapJudged s.instant r dropped
    ∧ s.settleGap = { s with link := { s.link with
      receiver := r
      badFrames := if dropped = true then s.link.badFrames.saturatingSucc else s.link.badFrames } } := by
  cases hr : s.link.receiver with
  | hunting => exact ⟨.hunting, false, .inl ⟨hr, rfl, rfl⟩, by simp only [State.settleGap, hr]; rw [← hr]; rfl⟩
  | length =>
    by_cases h : s.link.lastCharacter + 100 < s.instant
    · exact ⟨.lapsed, false, .inr (.inl ⟨.inl hr, .inr ⟨h, rfl⟩, rfl⟩),
        by simp only [State.settleGap, hr]; rw [if_pos h]; rfl⟩
    · exact ⟨.length, false, .inr (.inl ⟨.inl hr, .inl ⟨Nat.not_lt.mp h, hr.symm⟩, rfl⟩),
        by simp only [State.settleGap, hr]; rw [if_neg h, ← hr]; rfl⟩
  | body len cs =>
    by_cases h : s.link.lastCharacter + 100 < s.instant
    · exact ⟨.lapsed, false, .inr (.inl ⟨.inr ⟨_, _, hr⟩, .inr ⟨h, rfl⟩, rfl⟩),
        by simp only [State.settleGap, hr]; rw [if_pos h]; rfl⟩
    · exact ⟨.body len cs, false, .inr (.inl ⟨.inr ⟨_, _, hr⟩, .inl ⟨Nat.not_lt.mp h, hr.symm⟩, rfl⟩),
        by simp only [State.settleGap, hr]; rw [if_neg h, ← hr]; rfl⟩
  | lapsed =>
    by_cases h : s.link.lastCharacter + Config.characterGap + Config.breakTime ≤ s.instant
    · exact ⟨.hunting, true, .inr (.inr ⟨hr, .inr ⟨h, rfl, rfl⟩⟩),
        by simp only [State.settleGap, hr]; rw [if_pos h]; simp only [State.dropPartial, hr]; rfl⟩
    · exact ⟨.lapsed, false, .inr (.inr ⟨hr, .inl ⟨Nat.not_le.mp h, rfl, rfl⟩⟩),
        by simp only [State.settleGap, hr]; rw [if_neg h, ← hr]; rfl⟩

/-! ## The Course Tracker's operations -/

/-- `t` is `s` but for the Run Table, the expectation queues, the Unassigned List, and reports stored at the count of
`s`. Every assignment operation is such a change. -/
structure TrackerChange (s t : State) : Prop where
  clock : t.clock = s.clock
  gates : t.gates = s.gates
  crossings : t.crossings = s.crossings
  course : t.tracker.course = s.tracker.course
  assignment : t.tracker.assignment = s.tracker.assignment
  link : t.link = s.link
  session : ∃ bs, t.session = s.session.storeAll s.clock.count bs
  pins : t.pins = s.pins
  instant : t.instant = s.instant
  meetings : t.meetings = s.meetings
  pending : t.pending = s.pending

theorem TrackerChange.refl (s : State) : TrackerChange s s :=
  ⟨rfl, rfl, rfl, rfl, rfl, rfl, ⟨[], rfl⟩, rfl, rfl, rfl, rfl⟩

theorem TrackerChange.trans {s t u : State} (h : TrackerChange s t) (k : TrackerChange t u) : TrackerChange s u := by
  obtain ⟨bs, hb⟩ := h.session
  obtain ⟨cs, hc⟩ := k.session
  refine ⟨k.clock.trans h.clock, k.gates.trans h.gates, k.crossings.trans h.crossings, k.course.trans h.course,
    k.assignment.trans h.assignment, k.link.trans h.link, ⟨bs ++ cs, ?_⟩, k.pins.trans h.pins,
    k.instant.trans h.instant, k.meetings.trans h.meetings, k.pending.trans h.pending⟩
  rw [hc, hb, h.clock, Session.storeAll_append]

theorem TrackerChange.foldl {β : Type} {f : State → β → State} (hf : ∀ s b, TrackerChange s (f s b)) (bs : List β)
    (s : State) : TrackerChange s (bs.foldl f s) := by
  induction bs generalizing s with
  | nil => exact .refl s
  | cons b bs ih => exact (hf s b).trans (ih _)

theorem State.report_change (s : State) (b : ReportBody) : TrackerChange s (s.report b) :=
  ⟨rfl, rfl, rfl, rfl, rfl, rfl, ⟨[b], rfl⟩, rfl, rfl, rfl, rfl⟩

theorem State.setRun_change (s : State) (i : Slot) (r : Option Run) : TrackerChange s (s.setRun i r) :=
  ⟨rfl, rfl, rfl, rfl, rfl, rfl, ⟨[], rfl⟩, rfl, rfl, rfl, rfl⟩

theorem State.setQueues_change (s : State) (qs : List (List Slot)) : TrackerChange s (s.setQueues qs) :=
  ⟨rfl, rfl, rfl, rfl, rfl, rfl, ⟨[], rfl⟩, rfl, rfl, rfl, rfl⟩

theorem State.setUnassigned_change (s : State) (es : List UnassignedEntry) : TrackerChange s (s.setUnassigned es) :=
  ⟨rfl, rfl, rfl, rfl, rfl, rfl, ⟨[], rfl⟩, rfl, rfl, rfl, rfl⟩

theorem State.fileCrossing_change (s : State) (c : Crossing) (why : FilingReason) :
    TrackerChange s (s.fileCrossing c why) := by
  unfold State.fileCrossing
  split
  · split
    · exact (s.setUnassigned_change _).trans (State.report_change _ _)
    · exact (((s.setUnassigned_change _).trans (State.report_change _ _)).trans
        (State.setUnassigned_change _ _)).trans (State.report_change _ _)
  · exact (s.setUnassigned_change _).trans (State.report_change _ _)

theorem State.endOverTime_change (s : State) (i : Slot) : TrackerChange s (s.endOverTime i) := by
  unfold State.endOverTime
  split
  · exact ((s.setQueues_change _).trans (State.setRun_change _ _ _)).trans (State.report_change _ _)
  · exact .refl s

theorem State.startRun_change (s : State) (i : Slot) (o : SplitOrigin) (t : Tick) (h : Bool) :
    TrackerChange s (s.startRun i o t h) := by
  unfold State.startRun
  split
  · exact (((s.setRun_change _ _).trans (State.setQueues_change _ _)).trans (State.setQueues_change _ _)).trans
      (State.report_change _ _)
  · exact .refl s

theorem State.addSplit_change (s : State) (i : Slot) (c : Crossing) (h : Bool) :
    TrackerChange s (s.addSplit i c h) := by
  unfold State.addSplit
  split
  · next r _ =>
    by_cases hk : r.awaitedStep + 1 < r.stepCount
    · simp only [hk, if_true]
      exact (((s.setRun_change _ _).trans (State.setQueues_change _ _)).trans (State.setQueues_change _ _)).trans
        (State.report_change _ _)
    · simp only [hk, if_false]
      exact (((s.setRun_change _ _).trans (State.setQueues_change _ _)).trans (State.report_change _ _)).trans
        (State.report_change _ _)
  · exact .refl s

theorem State.advance_change (s : State) (i : Slot) (c : Crossing) (h : Bool) :
    TrackerChange s (s.advance i c h) := by
  unfold State.advance
  split
  · split
    · exact s.startRun_change _ _ _ _
    · exact s.addSplit_change _ _ _
  · exact .refl s

theorem State.examineDeadlines_change (s : State) : TrackerChange s s.examineDeadlines :=
  .foldl (fun s i => s.endOverTime_change i) _ s

theorem State.groupStart_change (s : State) (t : Tick) : TrackerChange s (s.groupStart t) :=
  (TrackerChange.foldl (fun s i => s.startRun_change i .group t false) _ s).trans (State.examineDeadlines_change _)

theorem State.clockStartEvent_change (s : State) (t : Tick) : TrackerChange s (s.clockStartEvent t) := by
  unfold State.clockStartEvent
  split
  · split
    · exact s.groupStart_change t
    · exact .refl s
  · exact .refl s

theorem State.endOverdueHeads_change (t : Tick) (s : State) (k : Nat) :
    TrackerChange s (State.endOverdueHeads t s k) :=
  .foldl (fun s i => s.endOverTime_change i) _ s

theorem State.place_change (s : State) (c : Crossing) : TrackerChange s (s.place c) := by
  unfold State.place
  split
  · exact s.fileCrossing_change _ _
  · next course _ =>
    split
    · have h := TrackerChange.foldl (State.endOverdueHeads_change c.time) (s.candidates course c.gate) s
      dsimp only
      split
      · exact h.trans (State.advance_change _ _ _ _)
      · exact h.trans (State.fileCrossing_change _ _ _)
    · exact s.fileCrossing_change _ _

theorem State.markCorrected_change (s : State) (i : Slot) : TrackerChange s (s.markCorrected i) :=
  s.setRun_change _ _

theorem State.voidLast_change (s : State) (i : Slot) (r : Run) (j : Nat) (sp : Split) :
    TrackerChange s (s.voidLast i r j sp) := by
  have h1 := ((s.setQueues_change _).trans (State.setQueues_change (s.dequeue i) _)).trans
    (State.setRun_change ((s.dequeue i).joinHead j i) i (some (r.voided j)))
  unfold State.voidLast
  cases sp.crossing? with
  | none => exact h1
  | some c => exact h1.trans (State.fileCrossing_change _ _ _)

end Sys2Proof.Machine
end

