-- ==== Sys2Proof/Laws/Ticks.lean ====
section
/-! SUPPORT. The steps due before a tick instant, said once: each leaves the Link Controller, the pins and the model's own
numbers as they are, and taking them all is running their commands in the order of `dueSteps`. -/

namespace Sys2Proof.Machine

/-- `t` is `s` but for the clock, the gates, the crossings, the Course Tracker and the Session: no step that falls due at a
tick instant changes anything else, until the gap is judged. -/
structure DueChange (s t : State) : Prop where
  link : t.link = s.link
  pins : t.pins = s.pins
  instant : t.instant = s.instant
  meetings : t.meetings = s.meetings
  pending : t.pending = s.pending

theorem DueChange.refl (s : State) : DueChange s s := ⟨rfl, rfl, rfl, rfl, rfl⟩

theorem DueChange.trans {s t u : State} (h : DueChange s t) (k : DueChange t u) : DueChange s u :=
  ⟨k.link.trans h.link, k.pins.trans h.pins, k.instant.trans h.instant, k.meetings.trans h.meetings,
    k.pending.trans h.pending⟩

theorem TrackerChange.due {s t : State} (h : TrackerChange s t) : DueChange s t :=
  ⟨h.link, h.pins, h.instant, h.meetings, h.pending⟩

theorem State.changeClock_due (s : State) (c : ClockState) (n : Tick) (why : ClockReason) :
    DueChange s (s.changeClock c n why) := ⟨rfl, rfl, rfl, rfl, rfl⟩

theorem State.setGate_due (s : State) (g : Gate) (u : GateUnit) : DueChange s (s.setGate g u) := ⟨rfl, rfl, rfl, rfl, rfl⟩

theorem State.clockLimit_due (s : State) : DueChange s s.clockLimit := by
  unfold State.clockLimit
  split
  · exact s.changeClock_due _ _ _
  · exact .refl s

theorem State.haltEnd_due (s : State) : DueChange s s.haltEnd := by
  unfold State.haltEnd
  split
  · split
    · exact s.changeClock_due _ _ _
    · exact .refl s
  all_goals exact .refl s

theorem State.enterGateIdle_due (s : State) (g : Gate) : DueChange s (s.enterGateIdle g) := by
  rw [State.enterGateIdle_eq]
  exact ⟨rfl, rfl, rfl, rfl, rfl⟩

theorem State.offerCrossing_due (s : State) (g : Gate) (t : Tick) : DueChange s (s.offerCrossing g t) := by
  by_cases h : s.crossings.records.length < 32
  · rw [State.offerCrossing_room g t h]
    exact ⟨rfl, rfl, rfl, rfl, rfl⟩
  · rw [State.offerCrossing_full g t (Nat.not_lt.mp h)]
    exact ⟨rfl, rfl, rfl, rfl, rfl⟩

theorem State.settleAcceptance_due (s : State) (g : Gate) (t : Tick) (stale : Bool) :
    DueChange s (s.settleAcceptance g t stale) := by
  unfold State.settleAcceptance
  split
  · exact s.setGate_due _ _
  · split
    · exact s.offerCrossing_due _ _
    · exact s.offerCrossing_due _ _
    · split
      · exact ((s.changeClock_due _ _ _).trans (State.clockStartEvent_change _ _).due).trans
          (State.offerCrossing_due _ _ _)
      · exact s.setGate_due _ _
    all_goals exact s.setGate_due _ _

theorem State.leadingEdge_due (s : State) (g : Gate) : DueChange s (s.leadingEdge g) := by
  unfold State.leadingEdge
  repeat' split
  all_goals first | exact .refl s | exact s.setGate_due _ _

theorem State.shortPulse_due (s : State) (g : Gate) : DueChange s (s.shortPulse g) := by
  unfold State.shortPulse
  repeat' split
  all_goals first | exact .refl s | exact (s.setGate_due _ _).trans (State.setGate_due _ _ _)

theorem State.acceptance_due (s : State) (g : Gate) : DueChange s (s.acceptance g) := by
  unfold State.acceptance
  repeat' split
  all_goals first | exact .refl s | exact (s.setGate_due _ _).trans (State.settleAcceptance_due _ _ _ _)

theorem State.edgeInHoldoff_due (s : State) (g : Gate) : DueChange s (s.edgeInHoldoff g) := by
  unfold State.edgeInHoldoff
  repeat' split
  all_goals first | exact .refl s | exact s.setGate_due _ _

theorem State.holdoffEnd_due (s : State) (g : Gate) : DueChange s (s.holdoffEnd g) := by
  unfold State.holdoffEnd
  repeat' split
  all_goals first | exact .refl s | exact s.setGate_due _ _ | exact s.enterGateIdle_due g

theorem State.blockedInputInactive_due (s : State) (g : Gate) : DueChange s (s.blockedInputInactive g) := by
  unfold State.blockedInputInactive
  repeat' split
  all_goals first | exact .refl s | exact s.enterGateIdle_due g

theorem State.gateAlarmBlocked_due (s : State) (g : Gate) : DueChange s (s.gateAlarmBlocked g) := by
  unfold State.gateAlarmBlocked
  repeat' split
  all_goals first | exact .refl s | exact (s.setGate_due _ _).trans (State.report_change _ _).due

theorem State.gateEnableSample_due (s : State) (g : Gate) : DueChange s (s.gateEnableSample g) := by
  unfold State.gateEnableSample
  repeat' split
  all_goals first | exact .refl s | exact s.setGate_due _ _ | exact s.enterGateIdle_due g

theorem State.setSession_due (s : State) (ss : Session) : DueChange s (s.setSession ss) := ⟨rfl, rfl, rfl, rfl, rfl⟩

theorem State.departure_due (s : State) (why : ReleaseCause) : DueChange s (s.departure why) := by
  unfold State.departure
  split <;> exact ⟨rfl, rfl, rfl, rfl, rfl⟩

theorem State.leaveSession_due (s : State) (n : SessionState) (why : ReleaseCause) :
    DueChange s (s.leaveSession n why) := by
  by_cases h : s.session.state = .opened
  · simp only [State.leaveSession, h, if_true]
    exact (s.setSession_due _).trans (State.departure_due _ _)
  · simp only [State.leaveSession, h, if_false]
    exact s.setSession_due _

theorem State.retryTimerExpiry_due (s : State) : DueChange s s.retryTimerExpiry := by
  by_cases h : s.session.state = .opened ∧ expiredBy s.instant s.session.retryTimer = true
  · by_cases h' : s.session.retryCount + 1 < Config.retryLimit
    · simp only [State.retryTimerExpiry, if_pos h, h', if_true]
      exact s.setSession_due _
    · simp only [State.retryTimerExpiry, if_pos h, h', if_false]
      exact (s.setSession_due _).trans (State.leaveSession_due _ _ _)
  · rw [State.retryTimerExpiry, if_neg h]
    exact .refl s

theorem State.keepaliveExpiry_due (s : State) : DueChange s s.keepaliveExpiry := by
  unfold State.keepaliveExpiry
  split
  · exact s.leaveSession_due _ _
  · exact .refl s

/-! ## Running them as commands -/

theorem runAll_append (as bs : List Instr) (s : State) : runAll (as ++ bs) s = (runAll as s).bind (runAll bs) := by
  induction as generalizing s with
  | nil => rfl
  | cons c cs ih =>
    simp only [List.cons_append, runAll]
    split
    · exact ih _
    all_goals rfl

/-- A command that a released part takes by the step `f`. -/
theorem runAll_cons_live {c : Instr} {f : State → State} (h : ∀ s, exec c s = .next (s.live f)) (cs : List Instr)
    {s : State} (hl : s.pins.resetLow = false) : runAll (c :: cs) s = runAll cs (f s) := by
  simp only [runAll, h, State.live_high hl]

/-- The commands of the steps that may be due at one gate. -/
def gateSteps (g : Gate) : List Instr :=
  [.gateEnableSample g, .blockedInputInactive g, .edgeInHoldoff g, .holdoffEnd g, .shortPulse g, .acceptance g,
    .leadingEdge g, .gateAlarmBlocked g]

theorem State.settleGate_due (s : State) (g : Gate) : DueChange s (s.settleGate g) :=
  (((((((s.gateEnableSample_due g).trans (State.blockedInputInactive_due _ g)).trans (State.edgeInHoldoff_due _ g)).trans
    (State.holdoffEnd_due _ g)).trans (State.shortPulse_due _ g)).trans (State.acceptance_due _ g)).trans
    (State.leadingEdge_due _ g)).trans (State.gateAlarmBlocked_due _ g)

theorem runAll_gateSteps (s : State) (g : Gate) (hl : s.pins.resetLow = false) :
    runAll (gateSteps g) s = some (s.settleGate g) := by
  have k (u : State) (h : DueChange s u) : u.pins.resetLow = false := by rw [h.pins, hl]
  have h1 := s.gateEnableSample_due g
  have h2 := h1.trans (State.blockedInputInactive_due _ g)
  have h3 := h2.trans (State.edgeInHoldoff_due _ g)
  have h4 := h3.trans (State.holdoffEnd_due _ g)
  have h5 := h4.trans (State.shortPulse_due _ g)
  have h6 := h5.trans (State.acceptance_due _ g)
  have h7 := h6.trans (State.leadingEdge_due _ g)
  unfold gateSteps
  rw [runAll_cons_live (f := (·.gateEnableSample g)) (fun _ => rfl) _ hl,
    runAll_cons_live (f := (·.blockedInputInactive g)) (fun _ => rfl) _ (k _ h1),
    runAll_cons_live (f := (·.edgeInHoldoff g)) (fun _ => rfl) _ (k _ h2),
    runAll_cons_live (f := (·.holdoffEnd g)) (fun _ => rfl) _ (k _ h3),
    runAll_cons_live (f := (·.shortPulse g)) (fun _ => rfl) _ (k _ h4),
    runAll_cons_live (f := (·.acceptance g)) (fun _ => rfl) _ (k _ h5),
    runAll_cons_live (f := (·.leadingEdge g)) (fun _ => rfl) _ (k _ h6),
    runAll_cons_live (f := (·.gateAlarmBlocked g)) (fun _ => rfl) _ (k _ h7)]
  simp only [runAll, State.settleGate]

theorem runAll_gates (gs : List Gate) (s : State) (hl : s.pins.resetLow = false) :
    runAll (gs.flatMap gateSteps) s = some (gs.foldl State.settleGate s) ∧ DueChange s (gs.foldl State.settleGate s) := by
  induction gs generalizing s with
  | nil => exact ⟨rfl, .refl s⟩
  | cons g gs ih =>
    have h := s.settleGate_due g
    have hi := ih (s.settleGate g) (by rw [h.pins, hl])
    rw [List.foldl_cons]
    refine ⟨?_, h.trans hi.2⟩
    rw [List.flatMap_cons, runAll_append, runAll_gateSteps s g hl]
    exact hi.1

/-- Running the commands of the due steps in their order is what a tick does before it judges the gap and counts. -/
theorem runAll_dueSteps (s : State) (hl : s.pins.resetLow = false) :
    ∃ u, runAll dueSteps s = some u ∧ DueChange s u ∧ s.settle = u.settleGap := by
  have h0 : DueChange s s.clockLimit.haltEnd := s.clockLimit_due.trans (State.haltEnd_due _)
  have hg := runAll_gates Config.allGates s.clockLimit.haltEnd (by rw [h0.pins, hl])
  have h1 := h0.trans hg.2
  have h2 := h1.trans (State.examineDeadlines_change _).due
  have h3 := h2.trans (State.retryTimerExpiry_due _)
  refine ⟨_, ?_, h3.trans (State.keepaliveExpiry_due _), rfl⟩
  show runAll ([.clockLimit, .haltEnd] ++ Config.allGates.flatMap gateSteps
    ++ [.deadlineExpiry, .retryTimerExpiry, .keepaliveExpiry]) s = _
  rw [runAll_append, runAll_append, runAll_cons_live (f := State.clockLimit) (fun _ => rfl) _ hl,
    runAll_cons_live (f := State.haltEnd) (fun _ => rfl) _ (by rw [s.clockLimit_due.pins, hl])]
  rw [show runAll [] s.clockLimit.haltEnd = some s.clockLimit.haltEnd from rfl, Option.bind_some, hg.1, Option.bind_some,
    runAll_cons_live (f := State.examineDeadlines) (fun _ => rfl) _ (by rw [h1.pins, hl]),
    runAll_cons_live (f := State.retryTimerExpiry) (fun _ => rfl) _ (by rw [h2.pins, hl]),
    runAll_cons_live (f := State.keepaliveExpiry) (fun _ => rfl) _ (by rw [h3.pins, hl])]
  simp only [runAll]

end Sys2Proof.Machine
end

