-- ==== Sys2Proof/Tests/Slice0.lean ====
section
/-! SUPPORT. Small tests of one step each, with results from the manual's text and examples; and for every statement with
hypotheses a `witness_` theorem: a concrete state and operands that meet the hypotheses of each clause, with what the
command then does. -/

namespace Sys2Proof.Tests

set_option Elab.async false

open Sys2Proof Sys2Proof.Machine

/-! ## Small states -/

/-- The state after a command that answers a next state. -/
def after (c : Instr) (s : State) : State :=
  match exec c s with
  | .next t => t
  | .fault _ => s
  | .refused _ => s

/-- A state in an OPEN session with one request waiting. -/
def asking (s : State) (code : Byte) (payload : List Byte) : State :=
  { s with
    link := { s.link with buffer := [⟨code, 7, payload, .waiting⟩] }
    session := { s.session with state := .opened, window := 2, reports := [], nextSequence := 2 } }

/-- The reply frame that stands READY in the buffer, without its sync byte, length, type, tag and CRC: the status and the
payload. -/
def answered (s : State) : List Byte :=
  match s.link.buffer with
  | ⟨_, _, _, .ready f⟩ :: _ => (f.drop 4).take (f.length - 6)
  | _ => []

/-- The bodies of the stored reports, oldest first. -/
def reports (s : State) : List ReportBody := s.session.reports.map (·.body)

/-- A state with the clock in a given state and count, and nothing in the Report Queue. -/
def clocked (st : ClockState) (count : Tick) : State :=
  { State.reset with clock := ⟨st, count⟩, session := { State.reset.session with reports := [] } }

/-- Gate 1 with the phase given, ACTIVE_HIGH, qualify width 5, holdoff 2, block alarm time 1, raw reporting as given; its
input level at the last two tick instants; the last tick instant 20000. -/
def gated (phase : GatePhase) (raised raw now before : Bool) (s : State) : State :=
  { s with
    gates := s.gates.set 1 ⟨⟨true, .activeHigh, 5, 2, 1, raw⟩, phase, raised, ⟨3, 4, 5, 6⟩⟩
    pins := ⟨false, if now then 2 else 0, if before then 2 else 0⟩
    instant := 20000 }

/-- A GATE course of three steps at gates 0, 1 and 1, and a GROUP course of two steps. -/
def gateCourse : Course := ⟨5, .gate, [⟨some 0, none⟩, ⟨some 1, some 2⟩, ⟨some 1, some 1⟩], 60⟩
def groupCourse : Course := ⟨6, .group, [⟨none, none⟩, ⟨some 1, some 0⟩], 0⟩

/-- Run 9 with the splits and state given, on the GATE course. -/
def runNine (state : RunState) (splits : List Split) (deadline : Option Tick) (reason : Option EndReason) : Run :=
  ⟨9, state, 5, 3, splits, deadline, reason, false⟩

/-- Its step-0 split at 1000. -/
def startSplit : Split := ⟨0, .crossing 0 1 .sensor, 1000, false⟩

/-- Its step-1 split at 3000. -/
def middleSplit : Split := ⟨1, .crossing 1 2 .sensor, 3000, false⟩

/-- A clock RUNNING at 5000, a course, the runs of slots 0 and 1, the queues, and the crossings waiting. -/
def racing (course : Option Course) (r0 r1 : Option Run) (queues : List (List Slot)) (crossings : List Crossing) :
    State :=
  { clocked .running 5000 with
    crossings := ⟨crossings, 7⟩
    tracker := ⟨course, queues, ((Vector.replicate 24 none).set 0 r0).set 1 r1, [], .taking⟩ }

/-- Run 9 ON_COURSE behind its start, in slot 1, with a deadline. -/
def onCourse : State :=
  racing gateCourse none (some (runNine .onCourse [startSplit] (some 601000) none)) [[], [1], []] []

/-! ## The shape of commands -/

theorem test_lengthAccepted_refused_when_out_of_range :
    (Instr.lengthAccepted 3).wellFormed = false ∧ (Instr.lengthAccepted 245).wellFormed = false := by decide
theorem test_lengthOutOfRange_refused_when_in_range :
    (Instr.lengthOutOfRange 4).wellFormed = false ∧ (Instr.lengthOutOfRange 244).wellFormed = false := by decide
theorem test_bounds_wellFormed :
    (Instr.lengthAccepted 4).wellFormed = true ∧ (Instr.lengthAccepted 244).wellFormed = true
    ∧ (Instr.lengthOutOfRange 3).wellFormed = true ∧ (Instr.lengthOutOfRange 245).wellFormed = true := by decide

/-- No row of the table has bits, so no word spells a command, and putting one in front changes nothing. -/
theorem test_no_word_spells_a_command (nbits w : Nat) :
    decodeTableWord nbits w = none ∧ State.reset.withFetchWord nbits w = State.reset := ⟨rfl, rfl⟩

theorem test_idle_on_empty_queue : step State.reset = .next State.reset := rfl

/-- The check value of the CRC of R161: 0x29B1 over the ASCII characters 1 to 9. -/
theorem test_crc_check_value : crc16 [0x31, 0x32, 0x33, 0x34, 0x35, 0x36, 0x37, 0x38, 0x39] = 0x29B1 := by
  decide +kernel

/-! ## The block as a machine -/

theorem witness_EveryCommandIsAnsweredInTurn :
    State.reset.nextRequest = none ∧ State.reset.link.inHand = none ∧ isRequestStep .ping = true
    ∧ after .ping State.reset = State.reset
    ∧ (asking State.reset 0x03 []).nextRequest = some ⟨0x03, 7, [], .waiting⟩
    ∧ (asking State.reset 0x03 []).link.inHand = none
    ∧ RequestEntry.step ⟨0x03, 7, [], .waiting⟩ ≠ .status
    ∧ after .status (asking State.reset 0x03 []) = asking State.reset 0x03 [] := by decide +kernel

theorem witness_ResetStartsThePart :
    State.reset.inert.pins.resetLow = true ∧ (∀ b1 b0, Instr.take ≠ .externalReset b1 b0) ∧ Instr.take ≠ .rstnLow
    ∧ (after (.externalReset true false) State.reset.inert).link.rate = .bps460800 := by decide +kernel

/-! ## The gates -/

/-- Gate 1 with a pulse whose edge was five ticks ago, and so many crossings waiting. -/
def accepting (st : ClockState) (count : Tick) (stale : Bool) (n : Nat) : State :=
  { gated (.qualifying 650 19995 stale) false true true true (clocked st count) with
    crossings := ⟨List.replicate n ⟨1, 0, 100, .sensor⟩, 9⟩ }

theorem witness_EdgesAndShortPulses :
    (let s := gated .idle false false true false (clocked .running 700)
     s.pins.resetLow = false ∧ (s.gate 1).phase = .idle ∧ s.sampleActive 1 = true
     ∧ ((after (.leadingEdge 1) s).gate 1).phase = .qualifying 700 20000 false)
    ∧ (let s := gated (.qualifying 650 19999 false) false false false true (clocked .running 700)
       s.pins.resetLow = false ∧ (s.gate 1).phase = .qualifying 650 19999 false ∧ 19999 < s.instant
       ∧ s.sampleActive 1 = false ∧ ((after (.shortPulse 1) s).gate 1).counters.short = 5) := by decide +kernel

theorem witness_AcceptanceCountedOrIgnored :
    (let s := accepting .running 655 false 31
     s.pins.resetLow = false ∧ (s.gate 1).phase = .qualifying 650 19995 false ∧ s.sampleActive 1 = true
     ∧ 19995 + (s.gate 1).config.qualifyWidth.toNat ≤ s.instant ∧ s.clock.state.counting = true
     ∧ s.crossings.records.length < 32
     ∧ ((after (.acceptance 1) s).crossings.records.getLast?) = some ⟨9, 1, 650, .sensor⟩
     ∧ reports (after (.acceptance 1) s) = [.crossing ⟨9, 1, 650, .sensor⟩])
    ∧ (let s := accepting (.halting 700) 655 false 32
       s.clock.state.counting = true ∧ 32 ≤ s.crossings.records.length
       ∧ ((after (.acceptance 1) s).gate 1).counters.lost = 7
       ∧ reports (after (.acceptance 1) s) = [.crossingLost 1 650])
    ∧ ((after (.acceptance 1) (accepting .running 655 true 0)).gate 1).counters.ignored = 6
    ∧ ((after (.acceptance 1) (accepting .idle 0 false 0)).gate 1).counters.ignored = 6
    ∧ ((after (.acceptance 1) (accepting .halted 700 false 0)).gate 1).counters.ignored = 6
    ∧ ((after (.acceptance 1) (accepting (.armed 0) 0 false 0)).gate 1).counters.ignored = 6 := by decide +kernel

theorem witness_AcceptanceStartsTheArmedClock :
    (let s := accepting (.armed 1) 0 false 31
     s.pins.resetLow = false ∧ (s.gate 1).phase = .qualifying 650 19995 false ∧ s.sampleActive 1 = true
     ∧ 19995 + (s.gate 1).config.qualifyWidth.toNat ≤ s.instant ∧ s.clock.state = .armed 1
     ∧ s.crossings.records.length < 32 ∧ (after (.acceptance 1) s).clock = ⟨.running, 5⟩
     ∧ reports (after (.acceptance 1) s) = [.clockState .running .trigger, .crossing ⟨9, 1, 0, .sensor⟩])
    ∧ (let s := accepting (.armed 1) 0 false 32
       32 ≤ s.crossings.records.length
       ∧ reports (after (.acceptance 1) s) = [.clockState .running .trigger, .crossingLost 1 0]) := by decide +kernel

theorem witness_HoldoffAndBlockedSteps :
    (let s := gated (.holdoff 20100 19900) false false true false (clocked .running 700)
     s.pins.resetLow = false ∧ (s.gate 1).phase = .holdoff 20100 19900 ∧ s.sampleActive 1 = true
     ∧ s.priorActive 1 = false ∧ ((after (.edgeInHoldoff 1) s).gate 1).phase = .holdoff 20100 20000)
    ∧ (let s := gated (.holdoff 20000 19900) true false false true (clocked .running 700)
       s.sampleActive 1 = false ∧ 20000 ≤ s.instant ∧ ((after (.holdoffEnd 1) s).gate 1).phase = .idle
       ∧ reports (after (.holdoffEnd 1) s) = [.gateAlarm 1 .cleared])
    ∧ (let s := gated (.holdoff 20000 19900) false false true true (clocked .running 700)
       s.sampleActive 1 = true ∧ ((after (.holdoffEnd 1) s).gate 1).phase = .blocked 19900)
    ∧ (let s := gated (.blocked 9000) true false false true (clocked .running 700)
       (s.gate 1).phase = .blocked 9000 ∧ s.sampleActive 1 = false
       ∧ ((after (.blockedInputInactive 1) s).gate 1).alarmRaised = false)
    ∧ (let s := gated (.blocked 10000) false false true true (clocked .running 700)
       s.sampleActive 1 = true ∧ s.priorActive 1 = true ∧ (s.gate 1).alarmRaised = false
       ∧ 10000 + 10000 * (s.gate 1).config.blockAlarmTime.toNat ≤ s.instant
       ∧ reports (after (.gateAlarmBlocked 1) s) = [.gateAlarm 1 .blocked]) := by decide +kernel

/-- The fields of gate 1 in `gated`, as SET GATE carries them, but for the enabled field. -/
def setGate (enabled qualify : Byte) : List Byte := [1, enabled, 1, qualify, 2, 1, 0]

theorem witness_SetGateDisables :
    (let s := asking (gated (.blocked 9000) true false true true (clocked .running 700)) 0x10 (setGate 0 250)
     s.session.state ≠ .closed ∧ s.NextIs 0x10 7 (setGate 0 250)
     ∧ ((after .setGateDisable s).gate 1).phase = .disabled none
     ∧ ((after .setGateDisable s).gate 1).alarmRaised = false ∧ reports (after .setGateDisable s) = []
     ∧ answered (after .setGateDisable s) = [0x00])
    ∧ (let s := asking (gated .idle false false true true (clocked .running 700)) 0x10 (setGate 0 251)
       s.NextIs 0x10 7 (setGate 0 251) ∧ answered (after .setGateDisable s) = [0x04])
    ∧ (let s := asking (gated .idle false false true true (clocked .running 700)) 0x10 (setGate 2 1)
       s.NextIs 0x10 7 (setGate 2 1) ∧ answered (after .setGateDisable s) = [0x04]) := by decide +kernel

theorem witness_SetGateEnables :
    (let s := asking (gated (.disabled none) false false true true (clocked .running 700)) 0x10 (setGate 1 1)
     s.session.state ≠ .closed ∧ s.NextIs 0x10 7 (setGate 1 1) ∧ (∃ w, (s.gate 1).phase = .disabled w)
     ∧ ((after .setGateEnable s).gate 1).phase = .disabled (some 20000))
    ∧ (let s := asking (gated .idle false false true true (clocked .running 700)) 0x10 (setGate 1 5)
       s.NextIs 0x10 7 (setGate 1 5) ∧ (∀ w, (s.gate 1).phase ≠ .disabled w)
       ∧ answered (after .setGateEnable s) = [0x00])
    ∧ (let s := asking (gated .idle false false true true (clocked .running 700)) 0x10 (setGate 1 6)
       answered (after .setGateEnable s) = [0x06])
    ∧ (let s := asking (gated .idle false false true true (clocked .running 700)) 0x10 (setGate 1 0)
       s.NextIs 0x10 7 (setGate 1 0) ∧ answered (after .setGateEnable s) = [0x04])
    ∧ (let s := gated (.disabled (some 19999)) false false true false (clocked .running 700)
       (s.gate 1).phase = .disabled (some 19999) ∧ 19999 < s.instant ∧ (s.gate 1).alarmRaised = false
       ∧ ((after (.gateEnableSample 1) s).gate 1).phase = .blocked 20000) :=
  ⟨⟨by decide +kernel, by decide +kernel, ⟨none, by decide +kernel⟩, by decide +kernel⟩,
    ⟨by decide +kernel, fun _ h => (nomatch h), by decide +kernel⟩, by decide +kernel, by decide +kernel,
    by decide +kernel⟩

theorem witness_GetGateReadsAndClears :
    (let s := asking (gated .idle false true true true (clocked .running 700)) 0x11 [1, 1]
     s.session.state ≠ .closed ∧ s.NextIs 0x11 7 [1, 1] ∧ ((after .getGate s).gate 1).counters = ⟨0, 0, 0, 0⟩
     ∧ answered (after .getGate s) = [0, 1, 1, 5, 2, 1, 1, 1, 0, 3, 0, 4, 0, 5, 0, 6])
    ∧ (let s := asking State.reset 0x11 [8, 0]
       s.NextIs 0x11 7 [8, 0] ∧ answered (after .getGate s) = [0x04]) := by decide +kernel

/-! ## Facts about small states, from checks that evaluate -/

theorem all_runs {s : State} {p : Run → Prop} [DecidablePred p]
    (h : ∀ i : Slot, ((s.run i).all fun r => decide (p r)) = true) : ∀ i r, s.run i = some r → p r := by
  intro i r hr
  simpa [hr] using h i

theorem numbersDistinct_of {s : State}
    (h : ∀ i j : Slot, ((s.run i).all fun a => (s.run j).all fun b => decide (a.number = b.number → i = j)) = true) :
    s.NumbersDistinct := by
  intro i j r hr r' hr'
  simpa [hr, hr', or_iff_not_imp_left] using h i j

theorem headsInTime_of {s : State} {c : Crossing}
    (h : ∀ i : Slot, ((s.run i).all fun r => r.deadline.all fun d => decide (c.time ≤ d)) = true) :
    s.HeadsInTime c := by
  intro _ _ i r d _ _ _ hr _ hd
  simpa [hr, hd] using h i

/-! ## The Race Clock -/

theorem witness_ArmAndDisarmClock :
    (let s := asking (gated .idle false false true true (clocked .idle 0)) 0x18 [1]
     s.session.state ≠ .closed ∧ s.NextIs 0x18 7 [1] ∧ s.clock.state = .idle ∧ (s.gate 1).config.enabled = true
     ∧ (after .armClock s).clock = ⟨.armed 1, 0⟩ ∧ reports (after .armClock s) = [.clockState .armed .request])
    ∧ (let s := asking (clocked .idle 0) 0x18 [1]
       s.NextIs 0x18 7 [1] ∧ (s.gate 1).config.enabled = false ∧ answered (after .armClock s) = [0x06])
    ∧ answered (after .armClock (asking (clocked .idle 0) 0x18 [8])) = [0x04]
    ∧ answered (after .armClock (asking (gated .idle false false true true (clocked .running 0)) 0x18 [1])) = [0x06]
    ∧ (let s := asking (gated (.qualifying 0 19999 false) false false true true (clocked (.armed 1) 0)) 0x19 []
       s.NextIs 0x19 7 [] ∧ s.clock.state = .armed 1 ∧ (after .disarmClock s).clock = ⟨.idle, 0⟩
       ∧ ((after .disarmClock s).gate 1).phase = .qualifying 0 19999 true
       ∧ ∀ h : Gate, h ≠ 1 → (after .disarmClock s).gate h = s.gate h)
    ∧ answered (after .disarmClock (asking (clocked .idle 0) 0x19 [])) = [0x06] := by decide +kernel

theorem witness_StartClockStarts :
    (let s := asking (clocked .idle 0) 0x1A [0, 0, 0, 1, 0]
     s.session.state ≠ .closed ∧ s.NextIs 0x1A 7 [0, 0, 0, 1, 0] ∧ s.clock.state = .idle
     ∧ (after .startClock s).clock = ⟨.running, 0⟩)
    ∧ (let s := asking (clocked .idle 0) 0x1A [1, 0xFF, 0xFF, 0xFF, 0xFE]
       word32 0xFF 0xFF 0xFF 0xFE ≠ 0xFFFFFFFF ∧ (after .startClock s).clock = ⟨.running, 4294967294⟩
       ∧ (after .startClock s).session.reports.map (·.created) = [4294967294])
    ∧ answered (after .startClock (asking (clocked .idle 0) 0x1A [1, 0xFF, 0xFF, 0xFF, 0xFF])) = [0x04]
    ∧ answered (after .startClock (asking (clocked .idle 0) 0x1A [2, 0, 0, 0, 0])) = [0x04]
    ∧ answered (after .startClock (asking (clocked .halted 0) 0x1A [1, 0, 0, 0, 0])) = [0x06] := by decide +kernel

theorem witness_HaltAndResumeClock :
    (let s := asking (clocked .running 5000) 0x1B []
     s.session.state ≠ .closed ∧ s.NextIs 0x1B 7 [] ∧ s.clock.state = .running ∧ s.clock.count < 5100
     ∧ (5100 : Tick).toNat % 100 = 0 ∧ (5100 : Tick).toNat ≤ s.clock.count.toNat + 100
     ∧ (after .haltClock s).clock = ⟨.halting 5100, 5000⟩)
    ∧ (after .haltClock (asking (clocked .running 4294967199) 0x1B [])).clock = ⟨.halting 4294967200, 4294967199⟩
    ∧ (after .haltClock (asking (clocked .running 4294967200) 0x1B [])).clock = ⟨.halting 0xFFFFFFFF, 4294967200⟩
    ∧ answered (after .haltClock (asking (clocked .halted 0xFFFFFFFF) 0x1B [])) = [0x00]
    ∧ answered (after .haltClock (asking (clocked .idle 0) 0x1B [])) = [0x06]
    ∧ (let s := asking (clocked (.halting 5100) 5099) 0x1C []
       s.NextIs 0x1C 7 [] ∧ s.clock.state = .halting 5100 ∧ (after .resumeClock s).clock = ⟨.running, 5099⟩)
    ∧ (after .resumeClock (asking (clocked .halted 5100) 0x1C [])).clock = ⟨.running, 5100⟩
    ∧ answered (after .resumeClock (asking (clocked .halted 0xFFFFFFFF) 0x1C [])) = [0x06]
    ∧ answered (after .resumeClock (asking (clocked .running 7) 0x1C [])) = [0x00]
    ∧ answered (after .resumeClock (asking (clocked (.armed 0) 0) 0x1C [])) = [0x06] := by decide +kernel

theorem witness_ClearClockClears :
    (let s := asking (clocked .running 700) 0x1D []
     s.session.state ≠ .closed ∧ s.NextIs 0x1D 7 [] ∧ answered (after .clearClock s) = [0x06])
    ∧ (let s := asking { onCourse with clock := ⟨.halted, 5000⟩ } 0x1D []
       s.NextIs 0x1D 7 [] ∧ (∃ i : Slot, ((s.run i).any fun r => r.state == .onCourse) = true)
       ∧ answered (after .clearClock s) = [0x0B])
    ∧ (let s := asking { accepting .halted 700 false 1 with link := State.reset.link } 0x1D []
       (∀ i r, s.run i = some r → r.state ≠ .onCourse) ∧ s.crossings.records ≠ []
       ∧ answered (after .clearClock s) = [0x06])
    ∧ (let s := asking (gated (.qualifying 650 19999 false) false false true true (clocked .halted 700)) 0x1D []
       (∀ i r, s.run i = some r → r.state ≠ .onCourse) ∧ s.crossings.records = []
       ∧ (after .clearClock s).clock = ⟨.idle, 0⟩
       ∧ ((after .clearClock s).gate 1).phase = .qualifying 650 19999 true
       ∧ (after .clearClock s).session.reports.map (·.created) = [0]
       ∧ answered (after .clearClock s) = [0x00, 0])
    ∧ reports (after .clearClock (asking (clocked .idle 0) 0x1D [])) = [] :=
  ⟨by decide +kernel, by decide +kernel, ⟨all_runs (by decide +kernel), by decide +kernel⟩,
    ⟨all_runs (by decide +kernel), by decide +kernel⟩, by decide +kernel⟩

theorem witness_ReadClockReads :
    (let s := asking (clocked (.halting 0x01020400) 0x01020304) 0x1E []
     s.session.state ≠ .closed ∧ s.NextIs 0x1E 7 [] ∧ s.clock.state = .halting 0x01020400
     ∧ answered (after .readClock s) = [0, 3, 1, 2, 3, 4, 0xFF, 1, 2, 4, 0])
    ∧ answered (after .readClock (asking (clocked (.armed 6) 0) 0x1E [])) = [0, 1, 0, 0, 0, 0, 6, 0, 0, 0, 0]
    ∧ answered (after .readClock (asking (clocked .idle 0) 0x1E [])) = [0, 0, 0, 0, 0, 0, 0xFF, 0, 0, 0, 0]
    ∧ answered (after .readClock (asking (clocked .halted 100) 0x1E [])) = [0, 4, 0, 0, 0, 100, 0xFF, 0, 0, 0, 0]
    ∧ answered (after .readClock (asking (clocked .running 1) 0x1E [])) = [0, 2, 0, 0, 0, 1, 0xFF, 0, 0, 0, 0] := by
  decide +kernel

theorem witness_HaltEndAndLimit :
    (let s := clocked (.halting 5100) 5100
     s.pins.resetLow = false ∧ s.clock.state = .halting s.clock.count ∧ s.clock.count ≠ 0xFFFFFFFF
     ∧ (after .haltEnd s).clock = ⟨.halted, 5100⟩ ∧ reports (after .haltEnd s) = [.clockState .halted .boundary])
    ∧ (let s := clocked (.halting 0xFFFFFFFF) 0xFFFFFFFF
       reports (after .clockLimit s) = [.clockState .halted .limit] ∧ after .haltEnd s = s)
    ∧ (let s := clocked .running 0xFFFFFFFF
       s.clock.state = .running ∧ (after .clockLimit s).clock = ⟨.halted, 0xFFFFFFFF⟩) := by decide +kernel

/-- Gate 1 one tick before its acceptance, the clock RUNNING one tick before its limit. -/
def quiet : State := gated (.qualifying 650 19996 false) false false true true (clocked .running 0xFFFFFFFE)

theorem witness_TickCountsAndSamples :
    quiet.pins.resetLow = false ∧ quiet.NothingDue
    ∧ (after (.tickInstant 0x02) quiet).clock = ⟨.running, 0xFFFFFFFF⟩
    ∧ (after (.tickInstant 0x02) (clocked .halted 100)).clock.count = 100
    ∧ (after (.tickInstant 0x02) (after (.tickInstant 0x02) quiet)).clock = ⟨.halted, 0xFFFFFFFF⟩
    ∧ ((runAll dueSteps (after (.tickInstant 0x02) quiet)).map fun u => u.clock) = some ⟨.halted, 0xFFFFFFFF⟩
    ∧ (let s := { State.reset.setReceiver .length with instant := 101 }
       s.link.GapJudged 101 .lapsed false ∧ (after (.tickInstant 0) s).link.receiver = .lapsed
       ∧ (after (.tickInstant 0) { s with instant := 100 }).link.receiver = .length)
    ∧ (let s := { State.reset.setReceiver .lapsed with instant := 120 }
       s.link.GapJudged 120 .hunting true ∧ (after (.tickInstant 0) s).link.receiver = .hunting
       ∧ (after (.tickInstant 0) s).link.badFrames = 1
       ∧ (after (.tickInstant 0) { s with instant := 119 }).link.receiver = .lapsed) := by
  refine ⟨rfl, ⟨by decide +kernel, fun _ h => (nomatch h), fun g => ?_, by decide +kernel, fun _ h => (nomatch h),
    fun _ h => (nomatch h), trivial⟩, by decide +kernel, by decide +kernel, by decide +kernel, by decide +kernel,
    ⟨.inr (.inl ⟨.inl rfl, .inr ⟨by decide, rfl⟩, rfl⟩), by decide +kernel⟩,
    ⟨.inr (.inr ⟨rfl, .inr ⟨by decide, rfl, rfl⟩⟩), by decide +kernel⟩⟩
  fin_cases g <;> first | exact trivial | exact ⟨by decide +kernel, by decide +kernel⟩

/-! ## The Crossing Queue and the take -/

theorem witness_ManualCrossingAppends :
    (let s := asking (accepting .running 5000 false 31) 0x38 [1, 0, 0, 0x13, 0x88]
     s.session.state ≠ .closed ∧ s.NextIs 0x38 7 [1, 0, 0, 0x13, 0x88] ∧ word32 0 0 0x13 0x88 ≤ s.clock.count
     ∧ s.crossings.records.length < 32 ∧ answered (after .manualCrossing s) = [0, 0, 0, 0, 9]
     ∧ reports (after .manualCrossing s) = [.crossing ⟨9, 1, 5000, .manual⟩])
    ∧ answered (after .manualCrossing (asking (accepting .running 5000 false 31) 0x38 [1, 0, 0, 0x13, 0x89])) = [0x04]
    ∧ answered (after .manualCrossing (asking (accepting .running 5000 false 32) 0x38 [1, 0, 0, 0x13, 0x88])) = [0x0C]
    ∧ answered (after .manualCrossing (asking (clocked .idle 0) 0x38 [1, 0, 0, 0, 0])) = [0x06]
    ∧ answered (after .manualCrossing (asking (clocked (.armed 0) 0) 0x38 [1, 0, 0, 0, 0])) = [0x06]
    ∧ answered (after .manualCrossing (asking (clocked .running 5) 0x38 [8, 0, 0, 0, 0])) = [0x04] := by decide +kernel

/-- A crossing at gate 1. -/
def crossingAt (t : Tick) : Crossing := ⟨6, 1, t, .sensor⟩

/-- `onCourse` with a crossing waiting. -/
def waitingAt (t : Tick) : State := { onCourse with crossings := ⟨[crossingAt t], 7⟩ }

theorem witness_TakeFilesCrossing :
    (let s := { waitingAt 2000 with tracker := { CourseTracker.reset with unassigned := List.replicate 16 ⟨⟨1, 0, 9, .manual⟩, .noRun⟩ } }
     s.tracker.assignment = .taking ∧ s.crossings.records = crossingAt 2000 :: [] ∧ s.HeadsInTime (crossingAt 2000)
     ∧ (∀ course, s.tracker.course = some course → ∀ k, course.gateOf k ≠ some (crossingAt 2000).gate)
     ∧ 16 ≤ s.tracker.unassigned.length
     ∧ reports (after .take s) = [.unassignedDropped 1 0, .unassigned 6 1 2000 .noStep])
    ∧ (let s := { waitingAt 2000 with tracker := { waitingAt 2000 |>.tracker with runs := CourseTracker.reset.runs, queues := [[], [], []] } }
       s.HeadsInTime (crossingAt 2000) ∧ s.tracker.course = some gateCourse ∧ gateCourse.gateOf 1 = some (crossingAt 2000).gate
       ∧ (∀ k, gateCourse.gateOf k = some (crossingAt 2000).gate → s.queue k = [])
       ∧ s.tracker.unassigned.length < 16
       ∧ reports (after .take s) = [.unassigned 6 1 2000 .noRun])
    ∧ (let s := waitingAt 1199
       s.HeadsInTime (crossingAt 1199) ∧ s.queue 1 ≠ [] ∧ s.TooSoonAt gateCourse 1199 1 1 ∧ s.queue 2 = []
       ∧ reports (after .take s) = [.unassigned 6 1 1199 .tooSoon]) := by
  refine ⟨⟨rfl, rfl, headsInTime_of (by decide +kernel), fun _ h => (nomatch h), by decide +kernel, by decide +kernel⟩,
    ⟨headsInTime_of (by decide +kernel), rfl, rfl, fun k _ => ?_, by decide +kernel, by decide +kernel⟩,
    headsInTime_of (by decide +kernel), by decide +kernel,
    ⟨by decide, runNine .onCourse [startSplit] (some 601000) none, 1000, by decide +kernel⟩, rfl, by decide +kernel⟩
  rcases k with _ | _ | _ | k <;> rfl

theorem witness_TakeStartsRun :
    let c : Crossing := ⟨6, 0, 4000, .manual⟩
    let s := racing gateCourse (some (runNine .staged [] none none)) none [[0], [], []] [c]
    s.pins.resetLow = false ∧ s.tracker.assignment = .taking ∧ s.HeadsInTime c ∧ gateCourse.gateOf 0 = some c.gate
    ∧ s.tracker.queues = [0] :: [] :: [[]] ∧ s.run 0 = some (runNine .staged [] none none)
    ∧ (∀ k j, 0 < k → gateCourse.gateOf k = some c.gate → (s.queue k).head? = some j → s.TooSoonAt gateCourse c.time k j)
    ∧ (604000 : Tick).toNat = min (c.time.toNat + 10000 * gateCourse.maxCourseTime.toNat) 4294967295
    ∧ (after .take s).run 0 = some (runNine .onCourse [⟨0, .crossing 0 6 .manual, 4000, false⟩] (some 604000) none)
    ∧ (after .take s).tracker.queues = [[], [0], []]
    ∧ reports (after .take s) = [.runStarted 9 0 4000 .manual] := by
  refine ⟨rfl, rfl, headsInTime_of (by decide +kernel), rfl, rfl, rfl, fun k j hk hg => ?_, by decide +kernel⟩
  rcases k with _ | _ | _ | k
  · omega
  all_goals first | exact absurd hg (by decide) | exact (Option.some_ne_none _ hg.symm).elim

/-- Run 9 at the step-1 queue's head, with run 8 at the step-2 queue's head, whose last split is later. -/
def twoHeads (t : Tick) : State :=
  racing gateCourse (some { runNine .onCourse [startSplit, middleSplit] (some 601000) none with number := 8 })
    (some (runNine .onCourse [startSplit] (some 601000) none)) [[], [1], [0]] [crossingAt t]

/-- At 1200 run 9 has just become eligible, and run 8 is too soon; at 3100 run 8 has just become eligible too, and run 9,
whose last split is earlier, still wins. -/
theorem witness_TakeAddsSplit :
    (let s := twoHeads 1200
     s.pins.resetLow = false ∧ s.tracker.assignment = .taking ∧ s.HeadsInTime (crossingAt 1200)
     ∧ gateCourse.gateOf 1 = some 1 ∧ s.queue 1 = 1 :: [] ∧ (∀ k', k' ≠ 1 → (1 : Slot) ∉ s.queue k')
     ∧ s.run 1 = some (runNine .onCourse [startSplit] (some 601000) none)
     ∧ (1000 : Tick).toNat + gateCourse.intervalTicks 1 ≤ (1200 : Tick).toNat ∧ s.TooSoonAt gateCourse 1200 2 0
     ∧ (after .take s).tracker.queues = [[], [], [0, 1]]
     ∧ reports (after .take s) = [.split 9 1 1 6 1200 200 200 false])
    ∧ reports (after .take (twoHeads 3100)) = [.split 9 1 1 6 3100 2100 2100 false]
    ∧ (let s := racing gateCourse none (some (runNine .onCourse [startSplit, middleSplit] (some 601000) none)) [[], [], [1]] [crossingAt 3100]
       s.queue 2 = 1 :: [] ∧ (3000 : Tick).toNat + gateCourse.intervalTicks 2 ≤ (3100 : Tick).toNat
       ∧ reports (after .take s) = [.split 9 2 1 6 3100 2100 100 false, .runEnded 9 .finished (some 2100)]
       ∧ (after .take s).tracker.queues = [[], [], []]) := by
  refine ⟨⟨rfl, rfl, headsInTime_of (by decide +kernel), rfl, rfl, fun k hk => ?_, rfl, by decide +kernel,
    ⟨by decide, { runNine .onCourse [startSplit, middleSplit] (some 601000) none with number := 8 }, 3000,
      by decide +kernel⟩, by decide +kernel⟩, by decide +kernel⟩
  rcases k with _ | _ | _ | k
  · decide +kernel
  · exact absurd rfl hk
  · decide +kernel
  · show (1 : Slot) ∉ []
    decide

theorem overdue_iff (s : State) (t : Tick) (i : Slot) :
    s.overdue t i = true ↔ ∃ r d, s.run i = some r ∧ r.state = .onCourse ∧ r.deadline = some d ∧ d < t := by
  simp only [State.overdue, Run.overdueAt, Option.any_eq_true, Bool.and_eq_true, beq_iff_eq, decide_eq_true_eq]
  constructor
  · rintro ⟨r, hr, hs, d, hd, ht⟩; exact ⟨r, d, hr, hs, hd, ht⟩
  · rintro ⟨r, d, hr, hs, hd, ht⟩; exact ⟨r, hr, hs, d, hd, ht⟩

/-- Run 9 alone, in slot 1 and the step-1 queue, with the deadline 601000: the laws of the tracker hold. -/
theorem tracker_onCourse (s : State) (h : s.tracker = onCourse.tracker) : s.TrackerLaw := by
  have hrun : ∀ i, s.run i = onCourse.run i := fun i => by simp [State.run, h]
  refine ⟨fun c hc => ?_, fun i j r hr r' hr' => ?_, fun i r hr => ?_, ?_⟩
  · obtain rfl : gateCourse = c := Option.some.inj ((congrArg CourseTracker.course h).symm.trans hc)
    decide
  · exact numbersDistinct_of (s := onCourse) (by decide +kernel) i j r (hrun i ▸ hr) r' (hrun j ▸ hr')
  · obtain rfl : r = runNine .onCourse [startSplit] (some 601000) none :=
      all_runs (s := onCourse) (p := (· = runNine .onCourse [startSplit] (some 601000) none)) (by decide +kernel) i r
        (hrun i ▸ hr)
    refine ⟨⟨⟨by decide, by decide⟩, by decide, by decide, by decide, rfl⟩, fun _ => ⟨gateCourse, ?_, by decide⟩,
      fun c hc _ => ?_⟩
    · exact congrArg CourseTracker.course h
    · obtain rfl : gateCourse = c := Option.some.inj ((congrArg CourseTracker.course h).symm.trans hc)
      decide
  · have hq : ∀ k, s.queue k = onCourse.queue k := fun k => by simp [State.queue, h]
    have hl : s.tracker.queues = onCourse.tracker.queues := congrArg CourseTracker.queues h
    have hc : s.tracker.course = onCourse.tracker.course := congrArg CourseTracker.course h
    refine ⟨by rw [hl, hc]; decide, fun k hk i => ?_⟩
    rw [hq, hrun]
    exact (by decide +kernel : ∀ k, k < 3 → ∀ i : Slot, (onCourse.queue k).count i =
      if (onCourse.run i).bind (·.queueStep) = some k then 1 else 0) k (by rw [hl] at hk; exact hk) i

/-- The crossing at 601001 is one tick later than the deadline of run 9, which ends before the crossing is judged. -/
theorem witness_OverdueHeadsEndFirst :
    let s := waitingAt 601001
    s.TrackerLaw ∧ s.pins.resetLow = false ∧ s.tracker.assignment = .taking
    ∧ s.crossings.records = crossingAt 601001 :: [] ∧ s.tracker.course = some gateCourse
    ∧ (∀ i, s.overdue 601001 i = true ↔
        ∃ r d, s.run i = some r ∧ r.state = .onCourse ∧ r.deadline = some d ∧ d < 601001)
    ∧ s.EndedOverTime (s.endOverTime 1)
        (((List.range gateCourse.steps.length).filter fun k => gateCourse.gateOf k == some 1).flatMap
          fun k => (s.queue k).takeWhile (s.overdue 601001))
    ∧ reports (after .take s) = [.runEnded 9 .overTime none, .unassigned 6 1 601001 .noRun] := by
  refine ⟨tracker_onCourse _ rfl, rfl, rfl, rfl, rfl, overdue_iff _ _, ⟨?_, ?_⟩, ?_⟩ <;> decide +kernel

/-- The count reaches the deadline of run 9 while the crossing waiting is timed one tick later. -/
theorem witness_DeadlinesExpire :
    let s := { waitingAt 601001 with clock := ⟨.running, 601000⟩ }
    s.pins.resetLow = false
    ∧ (∀ i, s.expires i = true ↔ ∃ r d, s.run i = some r ∧ r.state = .onCourse ∧ r.deadline = some d
        ∧ d ≤ s.clock.count ∧ ∀ c ∈ s.crossings.records, d < c.time)
    ∧ s.EndedOverTime (s.endOverTime 1) (s.tracker.queues.flatten.filter s.expires)
    ∧ reports (after .deadlineExpiry s) = [.runEnded 9 .overTime none]
    ∧ reports (after .deadlineExpiry { s with crossings := (waitingAt 601000).crossings }) = [] := by
  refine ⟨rfl, fun i => ?_, ⟨by decide +kernel, by decide +kernel⟩, by decide +kernel⟩
  simp only [State.expires, CrossingQueue.holdsUpTo, Option.any_eq_true, Bool.and_eq_true, Bool.not_eq_true',
    beq_iff_eq, decide_eq_true_eq, List.any_eq_false, BitVec.not_le]
  constructor
  · rintro ⟨r, hr, hs, d, hd, hc, hq⟩; exact ⟨r, d, hr, hs, hd, hc, hq⟩
  · rintro ⟨r, d, hr, hs, hd, hc, hq⟩; exact ⟨r, hr, hs, d, hd, hc, hq⟩

/-- Run 4 STAGED on the GROUP course. -/
def stagedGroup : State :=
  racing groupCourse (some ⟨4, .staged, 6, 2, [], none, none, false⟩) none [[0], []] []

theorem tracker_stagedGroup (s : State) (h : s.tracker = stagedGroup.tracker) : s.TrackerLaw := by
  have hrun : ∀ i, s.run i = stagedGroup.run i := fun i => by simp [State.run, h]
  have hcourse : ∀ c, s.tracker.course = some c → groupCourse = c := fun c hc =>
    Option.some.inj ((congrArg CourseTracker.course h).symm.trans hc)
  refine ⟨fun c hc => ?_, fun i j r hr r' hr' => ?_, fun i r hr => ?_, ?_⟩
  · obtain rfl := hcourse c hc
    decide
  · exact numbersDistinct_of (s := stagedGroup) (by decide +kernel) i j r (hrun i ▸ hr) r' (hrun j ▸ hr')
  · obtain rfl : r = ⟨4, .staged, 6, 2, [], none, none, false⟩ :=
      all_runs (s := stagedGroup) (p := (· = ⟨4, .staged, 6, 2, [], none, none, false⟩)) (by decide +kernel) i r
        (hrun i ▸ hr)
    refine ⟨⟨⟨by decide, by decide⟩, by decide, rfl, rfl⟩,
      fun _ => ⟨groupCourse, congrArg CourseTracker.course h, by decide⟩, fun c hc _ => ?_⟩
    obtain rfl := hcourse c hc
    decide
  · have hq : ∀ k, s.queue k = stagedGroup.queue k := fun k => by simp [State.queue, h]
    have hl : s.tracker.queues = stagedGroup.tracker.queues := congrArg CourseTracker.queues h
    have hc : s.tracker.course = stagedGroup.tracker.course := congrArg CourseTracker.course h
    refine ⟨by rw [hl, hc]; decide, fun k hk i => ?_⟩
    rw [hq, hrun]
    exact (by decide +kernel : ∀ k, k < 2 → ∀ i : Slot, (stagedGroup.queue k).count i =
      if (stagedGroup.run i).bind (·.queueStep) = some k then 1 else 0) k (by rw [hl] at hk; exact hk) i

theorem witness_GroupsStart :
    (let s := asking stagedGroup 0x2A [1, 0, 0, 0x13, 0x88]
     s.TrackerLaw ∧ s.session.state ≠ .closed ∧ s.NextIs 0x2A 7 [1, 0, 0, 0x13, 0x88] ∧ s.tracker.course = some groupCourse
     ∧ groupCourse.mode = .group ∧ s.queue 0 ≠ [] ∧ s.clock.state.counting = true
     ∧ word32 0 0 0x13 0x88 ≤ s.clock.count
     ∧ s.GroupStarted (s.startRun 0 .group 5000 false) groupCourse 5000
     ∧ answered (after .startGroup s) = [0, 0, 0, 0x13, 0x88, 1]
     ∧ reports (after .startGroup s) = [.runStarted 4 0 5000 .group]
     ∧ (after .startGroup s).tracker.queues = [[], [0]])
    ∧ (let s := asking stagedGroup 0x2A [0, 0xFF, 0, 0, 0]
       answered (after .startGroup s) = [0, 0, 0, 0x13, 0x88, 1])
    ∧ (let s := asking stagedGroup 0x2A [1, 0, 0, 0x13, 0x89]
       s.clock.count < word32 0 0 0x13 0x89 ∧ answered (after .startGroup s) = [0x04])
    ∧ answered (after .startGroup (asking stagedGroup 0x2A [2, 0, 0, 0, 0])) = [0x04]
    ∧ answered (after .startGroup (asking onCourse 0x2A [0, 0, 0, 0, 0])) = [0x06]
    ∧ answered (after .startGroup (asking { stagedGroup with clock := ⟨.halted, 5000⟩ } 0x2A [0, 0, 0, 0, 0])) = [0x06]
    ∧ stagedGroup.clockStartEvent 0 = stagedGroup.startRun 0 .group 0 false
    ∧ onCourse.clockStartEvent 0 = onCourse ∧ State.reset.clockStartEvent 0 = State.reset :=
  ⟨⟨tracker_stagedGroup _ rfl, by decide +kernel, by decide +kernel, rfl, rfl, by decide +kernel, rfl, by decide,
    ⟨⟨[0], [], [], rfl, by decide +kernel⟩, by decide +kernel⟩, by decide +kernel⟩, by decide +kernel⟩

theorem witness_HoldStopsTheTakes :
    (let s := asking (waitingAt 1200) 0x30 []
     s.NextIs 0x30 7 [] ∧ s.session.state = .opened ∧ (after .holdAssignment s).tracker.assignment = .held
     ∧ after .take (after .holdAssignment s) = after .holdAssignment s)
    ∧ (let s := asking (waitingAt 1200) 0x30 []
       let s := s.setSession { s.session with state := .silent }
       s.session.state = .silent ∧ answered (after .holdAssignment s) = [0x05])
    ∧ (let s := asking { onCourse with tracker := { onCourse.tracker with assignment := .held } } 0x31 []
       s.NextIs 0x31 7 [] ∧ (after .releaseAssignment s).tracker.assignment = .taking)
    ∧ after .take onCourse = onCourse := by decide +kernel

/-! ## The course and the runs -/

theorem witness_ReadQueueAndUnassigned :
    (let s := asking onCourse 0x36 [1]
     s.NextIs 0x36 7 [1] ∧ s.session.state ≠ .closed ∧ s.tracker.course = some gateCourse
     ∧ (s.queue 1).map s.run = [runNine .onCourse [startSplit] (some 601000) none].map some
     ∧ answered (after .readQueue s) = [0, 1, 1, 0, 9])
    ∧ answered (after .readQueue (asking onCourse 0x36 [2])) = [0, 2, 0]
    ∧ answered (after .readQueue (asking onCourse 0x36 [3])) = [0x04]
    ∧ answered (after .readQueue (asking onCourse 0x36 [12])) = [0x04]
    ∧ answered (after .readQueue (asking State.reset 0x36 [11])) = [0x0F]
    ∧ (let s := asking State.reset 0x36 [0]
       let s := s.setSession State.reset.session
       s.session.state = .closed ∧ answered (after .readQueue s) = [0x05])
    ∧ (let s := asking (onCourse.setUnassigned [⟨⟨0x01020304, 5, 0x05060708, .manual⟩, .tooSoon⟩]) 0x37 []
       s.NextIs 0x37 7 [] ∧ answered (after .readUnassigned s) = [0, 1, 1, 2, 3, 4, 5, 5, 6, 7, 8, 1, 3])
    ∧ (let s := asking State.reset 0x37 []
       let s := s.setSession State.reset.session
       answered (after .readUnassigned s) = [0x05]) := by decide +kernel

theorem gateCourse_intervals :
    ∀ k st, gateCourse.steps[k]? = some st → (st.minInterval.isSome = true ↔ k ≠ 0) := by
  intro k st h
  rcases k with _ | _ | _ | k
  · obtain rfl := Option.some.inj h; decide
  · obtain rfl := Option.some.inj h; decide
  · obtain rfl := Option.some.inj h; decide
  · exact (Option.some_ne_none _ h.symm).elim

theorem witness_CourseBytesRoundTrip :
    gateCourse.Lawful ∧ gateCourse.number ≠ 0
    ∧ (∀ k st, gateCourse.steps[k]? = some st → (st.minInterval.isSome = true ↔ k ≠ 0))
    ∧ coursePayload gateCourse = [5, 0, 3, 0, 60, 0, 0, 0, 1, 0, 2, 1, 0, 1]
    ∧ parseSetCourse [6, 1, 2, 0, 0, 0xFF, 0, 0, 1, 0, 0] = some groupCourse :=
  ⟨by decide, by decide, gateCourse_intervals, by decide +kernel, by decide +kernel⟩

/-- A finished run of the GATE course, in slot 1. -/
def finishedRun : Run :=
  runNine .finished [startSplit, middleSplit, ⟨2, .crossing 1 3 .sensor, 3500, false⟩] (some 601000) (some .finished)

theorem witness_SetCourseInstallsOrRefuses :
    (let s := asking (racing none none (some finishedRun) [] []) 0x20 (coursePayload gateCourse)
     s.session.state ≠ .closed ∧ s.NextIs 0x20 7 (coursePayload gateCourse) ∧ gateCourse.Lawful ∧ gateCourse.number ≠ 0
     ∧ (∃ i : Slot, ((s.run i).any fun r => r.courseNumber == 5) = true) ∧ s.tracker.course ≠ some gateCourse
     ∧ answered (after .setCourse s) = [0x0A])
    ∧ answered (after .setCourse (asking onCourse 0x20 (coursePayload groupCourse))) = [0x0A]
    ∧ (let s := asking (racing gateCourse none (some finishedRun) [[], [], []] []) 0x20 (coursePayload gateCourse)
       (∀ i r, s.run i = some r → r.state ≠ .staged ∧ r.state ≠ .onCourse) ∧ s.tracker.course = some gateCourse
       ∧ answered (after .setCourse s) = [0x00])
    ∧ (let s := asking State.reset 0x20 (coursePayload gateCourse)
       (∀ i r, s.run i = some r → r.courseNumber ≠ 5) ∧ (after .setCourse s).tracker.course = some gateCourse
       ∧ (after .setCourse s).tracker.queues = [[], [], []])
    ∧ (∀ number m n g0 i0 g1, (number, m, n, g0, i0, g1) ∈
          [((0 : Byte), (0 : Byte), (2 : Byte), (0 : Byte), (0 : Byte), (0 : Byte)), (1, 2, 2, 0, 0, 0), (1, 0, 2, 8, 0, 0),
            (1, 0, 2, 0xFF, 0, 0), (1, 1, 2, 0, 0, 0), (1, 0, 2, 0, 1, 0), (1, 0, 2, 0, 0, 8), (1, 1, 2, 0xFF, 0, 0xFF)] →
        answered (after .setCourse (asking State.reset 0x20 [number, m, n, 0, 0, g0, 0, i0, g1, 0, 0])) = [0x04])
    ∧ answered (after .setCourse (asking State.reset 0x20 [1, 0, 1, 0, 0, 0, 0, 0])) = [0x04]
    ∧ answered (after .setCourse (asking State.reset 0x20
        ([1, 0, 13, 0, 0, 0, 0, 0] ++ (List.replicate 12 [1, 0, 0]).flatten))) = [0x04] := by
  refine ⟨by decide +kernel, by decide +kernel, ⟨all_runs (by decide +kernel), rfl, by decide +kernel⟩,
    ⟨all_runs (by decide +kernel), by decide +kernel, by decide +kernel⟩, fun number m n g0 i0 g1 h => ?_,
    by decide +kernel, by decide +kernel⟩
  simp only [List.mem_cons, List.not_mem_nil, Prod.mk.injEq, or_false] at h
  rcases h with ⟨rfl, rfl, rfl, rfl, rfl, rfl⟩ | ⟨rfl, rfl, rfl, rfl, rfl, rfl⟩ | ⟨rfl, rfl, rfl, rfl, rfl, rfl⟩
    | ⟨rfl, rfl, rfl, rfl, rfl, rfl⟩ | ⟨rfl, rfl, rfl, rfl, rfl, rfl⟩ | ⟨rfl, rfl, rfl, rfl, rfl, rfl⟩
    | ⟨rfl, rfl, rfl, rfl, rfl, rfl⟩ | ⟨rfl, rfl, rfl, rfl, rfl, rfl⟩ <;> decide +kernel

theorem witness_ReadCourseAndRuns :
    (let s := asking onCourse 0x21 []
     s.session.state ≠ .closed ∧ s.NextIs 0x21 7 [] ∧ s.tracker.course = some gateCourse
     ∧ answered (after .getCourse s) = [0, 5, 0, 3, 0, 60, 0, 0, 0, 1, 0, 2, 1, 0, 1])
    ∧ answered (after .getCourse (asking State.reset 0x21 [])) = [0x0F]
    ∧ (let s := asking (racing gateCourse none (some finishedRun) [[], [], []] []) 0x2B [0, 9]
       s.NextIs 0x2B 7 [0, 9] ∧ s.NumbersDistinct ∧ s.run 1 = some finishedRun
       ∧ answered (after .readRun s) = [0, 1, 0, 9, 3, 5, 3, 1, 0, 9, 0x2B, 0xA8, 1, 0, 3,
          0, 8, 0, 0, 0, 1, 0, 0, 3, 0xE8, 0, 0, 0, 0, 0, 0, 0, 0,
          1, 9, 0, 0, 0, 2, 0, 0, 0x0B, 0xB8, 0, 0, 7, 0xD0, 0, 0, 7, 0xD0,
          2, 9, 0, 0, 0, 3, 0, 0, 0x0D, 0xAC, 0, 0, 9, 0xC4, 0, 0, 1, 0xF4])
    ∧ answered (after .readRun (asking onCourse 0x2B [0, 0])) = [0x04]
    ∧ answered (after .readRun (asking onCourse 0x2B [0, 8])) = [0x07]
    ∧ (let s := asking onCourse 0x2D []
       s.NextIs 0x2D 7 [] ∧ answered (after .listRuns s) = [0, 1, 1, 0, 9, 2, 1]) :=
  ⟨by decide +kernel, by decide +kernel,
    ⟨by decide +kernel, numbersDistinct_of (by decide +kernel), rfl, by decide +kernel⟩, by decide +kernel⟩

theorem witness_StageRunStages :
    (let s := asking onCourse 0x28 [0xFF, 0xFF]
     s.session.state ≠ .closed ∧ s.NextIs 0x28 7 [0xFF, 0xFF] ∧ (∀ i r, s.run i = some r → r.number ≠ 0xFFFF)
     ∧ s.run 0 = none ∧ s.tracker.queues = [] :: [[1], []]
     ∧ (after .stageRun s).run 0 = some ⟨0xFFFF, .staged, 5, 3, [], none, none, false⟩
     ∧ (after .stageRun s).tracker.queues = [[0], [1], []] ∧ answered (after .stageRun s) = [0, 0])
    ∧ answered (after .stageRun (asking onCourse 0x28 [0, 0])) = [0x04]
    ∧ answered (after .stageRun (asking State.reset 0x28 [0, 1])) = [0x0F]
    ∧ answered (after .stageRun (asking onCourse 0x28 [0, 9])) = [0x09]
    ∧ (let s := asking (racing gateCourse none none [[], [], []] []) 0x28 [0, 1]
       let s := { s with tracker := { s.tracker with runs := Vector.replicate 24 (some finishedRun) } }
       (∀ i, s.run i ≠ none) ∧ answered (after .stageRun s) = [0x08]) :=
  ⟨⟨by decide +kernel, by decide +kernel, all_runs (by decide +kernel), by decide +kernel⟩, by decide +kernel⟩

theorem witness_WithdrawAndReleaseRun :
    (let s := asking onCourse 0x29 [0, 9]
     s.session.state ≠ .closed ∧ s.NumbersDistinct ∧ s.NextIs 0x29 7 [0, 9]
     ∧ (after .withdrawRun s).run 1 = some (runNine .withdrawn [startSplit] (some 601000) (some .withdrawn))
     ∧ (after .withdrawRun s).tracker.queues = [[], [], []]
     ∧ reports (after .withdrawRun s) = [.runEnded 9 .withdrawn none])
    ∧ answered (after .withdrawRun (asking onCourse 0x29 [0, 0])) = [0x04]
    ∧ answered (after .withdrawRun (asking onCourse 0x29 [0, 8])) = [0x07]
    ∧ answered (after .withdrawRun (asking (racing gateCourse none (some finishedRun) [[], [], []] []) 0x29 [0, 9])) = [0x06]
    ∧ (let s := asking (racing gateCourse none (some finishedRun) [[], [], []] []) 0x2C [0, 9]
       s.NumbersDistinct ∧ s.NextIs 0x2C 7 [0, 9] ∧ (after .releaseRun s).run 1 = none
       ∧ answered (after .releaseRun s) = [0x00])
    ∧ answered (after .releaseRun (asking onCourse 0x2C [0, 9])) = [0x06]
    ∧ answered (after .releaseRun (asking onCourse 0x2C [0, 0])) = [0x04]
    ∧ answered (after .releaseRun (asking onCourse 0x2C [0, 8])) = [0x07] :=
  ⟨⟨by decide +kernel, numbersDistinct_of (by decide +kernel), by decide +kernel⟩, by decide +kernel, by decide +kernel,
    by decide +kernel, ⟨numbersDistinct_of (by decide +kernel), by decide +kernel⟩, by decide +kernel⟩

/-! ## Corrections -/

/-- Run 9 and run 8 in the step-1 queue, run 9 in front. -/
def pair : State :=
  racing gateCourse (some { runNine .onCourse [startSplit] (some 601000) none with number := 8 })
    (some (runNine .onCourse [startSplit] (some 601000) none)) [[], [1, 0], []] []

theorem witness_SwapRunsExchanges :
    (let s := asking pair 0x32 [1, 0, 9, 0, 8]
     s.session.state ≠ .closed ∧ s.NextIs 0x32 7 [1, 0, 9, 0, 8] ∧ s.NumbersDistinct
     ∧ (1 : Slot) ∈ s.queue 1 ∧ (0 : Slot) ∈ s.queue 1
     ∧ (after .swapRuns s).tracker.queues = [[], [0, 1], []]
     ∧ ((after .swapRuns s).run 0).map (·.corrected) = some true
     ∧ ((after .swapRuns s).run 1).map (·.corrected) = some true ∧ answered (after .swapRuns s) = [0x00])
    ∧ answered (after .swapRuns (asking pair 0x32 [12, 0, 9, 0, 8])) = [0x04]
    ∧ answered (after .swapRuns (asking State.reset 0x32 [11, 0, 9, 0, 8])) = [0x0F]
    ∧ answered (after .swapRuns (asking State.reset 0x32 [11, 0, 9, 0, 0])) = [0x04]
    ∧ answered (after .swapRuns (asking pair 0x32 [3, 0, 9, 0, 8])) = [0x04]
    ∧ answered (after .swapRuns (asking pair 0x32 [1, 0, 9, 0, 9])) = [0x04]
    ∧ answered (after .swapRuns (asking pair 0x32 [2, 0, 9, 0, 8])) = [0x07]
    ∧ answered (after .swapRuns (asking pair 0x32 [1, 0, 9, 0, 7])) = [0x07] :=
  ⟨⟨by decide +kernel, by decide +kernel, numbersDistinct_of (by decide +kernel), by decide +kernel⟩, by decide +kernel⟩

/-- A state with one crossing at gate `g` filed TOO_SOON. -/
def filed (s : State) (g : Gate) (t : Tick) : State := s.setUnassigned [⟨⟨6, g, t, .sensor⟩, .tooSoon⟩]

theorem witness_CorrectionsRefuse :
    (let s := asking (filed onCourse 1 999) 0x33 [0, 0, 0, 6, 0, 9]
     s.session.state ≠ .closed ∧ s.NextIs 0x33 7 [0, 0, 0, 6, 0, 9] ∧ s.NumbersDistinct
     ∧ s.tracker.unassigned = [] ++ ⟨⟨6, 1, 999, .sensor⟩, .tooSoon⟩ :: [] ∧ gateCourse.gateOf 1 = some 1
     ∧ (runNine .onCourse [startSplit] (some 601000) none).lastTime = some 1000
     ∧ answered (after .assignCrossing s) = [0x0D])
    ∧ answered (after .assignCrossing (asking (filed onCourse 1 601001) 0x33 [0, 0, 0, 6, 0, 9])) = [0x0E]
    ∧ answered (after .assignCrossing (asking (filed onCourse 0 2000) 0x33 [0, 0, 0, 6, 0, 9])) = [0x04]
    ∧ answered (after .assignCrossing (asking (filed onCourse 1 2000) 0x33 [0, 0, 0, 5, 0, 9])) = [0x07]
    ∧ answered (after .assignCrossing (asking (filed onCourse 1 2000) 0x33 [0, 0, 0, 6, 0, 8])) = [0x07]
    ∧ answered (after .assignCrossing (asking (filed onCourse 1 2000) 0x33 [0, 0, 0, 6, 0, 0])) = [0x04]
    ∧ answered (after .assignCrossing (asking (filed stagedGroup 1 2000) 0x33 [0, 0, 0, 6, 0, 4])) = [0x06]
    ∧ (let s := asking (racing gateCourse none (some { finishedRun with deadline := some 5000 }) [[], [], []] []) 0x34 [0, 9]
       s.NextIs 0x34 7 [0, 9] ∧ s.NumbersDistinct ∧ s.tracker.course = some gateCourse
       ∧ gateCourse.number = finishedRun.courseNumber ∧ (5000 : Tick) ≤ s.clock.count
       ∧ answered (after .voidSplit s) = [0x0E])
    ∧ answered (after .voidSplit (asking (racing groupCourse none (some finishedRun) [[], []] []) 0x34 [0, 9])) = [0x06]
    ∧ answered (after .voidSplit (asking stagedGroup 0x34 [0, 4])) = [0x06]
    ∧ answered (after .voidSplit (asking onCourse 0x34 [0, 8])) = [0x07]
    ∧ answered (after .voidSplit (asking onCourse 0x34 [0, 0])) = [0x04] :=
  ⟨⟨by decide +kernel, by decide +kernel, numbersDistinct_of (by decide +kernel), by decide +kernel⟩, by decide +kernel,
    by decide +kernel, by decide +kernel, by decide +kernel, by decide +kernel, by decide +kernel,
    ⟨by decide +kernel, numbersDistinct_of (by decide +kernel), by decide +kernel⟩, by decide +kernel⟩

theorem witness_AssignCrossingAdvances :
    (let s := asking (filed (racing gateCourse none (some (runNine .staged [] none none)) [[1], [], []] []) 0 1000) 0x33 [0, 0, 0, 6, 0, 9]
     s.session.state ≠ .closed ∧ s.NextIs 0x33 7 [0, 0, 0, 6, 0, 9] ∧ s.NumbersDistinct
     ∧ s.tracker.unassigned = [] ++ ⟨⟨6, 0, 1000, .sensor⟩, .tooSoon⟩ :: [] ∧ gateCourse.gateOf 0 = some 0
     ∧ (after .assignCrossing s).tracker.queues = [[], [1], []] ∧ (after .assignCrossing s).tracker.unassigned = []
     ∧ ((after .assignCrossing s).run 1).map (·.splits) = some [⟨0, .crossing 0 6 .sensor, 1000, true⟩]
     ∧ reports (after .assignCrossing s) = [.runStarted 9 1 1000 .sensor] ∧ answered (after .assignCrossing s) = [0, 0])
    ∧ (let s := asking (filed onCourse 1 1000) 0x33 [0, 0, 0, 6, 0, 9]
       s.NumbersDistinct ∧ (after .assignCrossing s).tracker.queues = [[], [], [1]]
       ∧ reports (after .assignCrossing s) = [.split 9 1 1 6 1000 0 0 true] ∧ answered (after .assignCrossing s) = [0, 1])
    ∧ (let s := asking (filed (racing gateCourse none (some (runNine .onCourse [startSplit, middleSplit] (some 601000) none)) [[], [], [1]] []) 1 601000) 0x33 [0, 0, 0, 6, 0, 9]
       s.NumbersDistinct ∧ (after .assignCrossing s).tracker.queues = [[], [], []]
       ∧ reports (after .assignCrossing s) = [.split 9 2 1 6 601000 600000 598000 true, .runEnded 9 .finished (some 600000)]
       ∧ answered (after .assignCrossing s) = [0, 2]) :=
  ⟨⟨by decide +kernel, by decide +kernel, numbersDistinct_of (by decide +kernel), by decide +kernel⟩,
    ⟨numbersDistinct_of (by decide +kernel), by decide +kernel⟩, numbersDistinct_of (by decide +kernel), by decide +kernel⟩

theorem witness_VoidSplitRemoves :
    (let s := asking onCourse 0x34 [0, 9]
     s.session.state ≠ .closed ∧ s.NextIs 0x34 7 [0, 9] ∧ s.NumbersDistinct
     ∧ (after .voidSplit s).run 1 = some { runNine .staged [] none none with corrected := true }
     ∧ (after .voidSplit s).tracker.queues = [[1], [], []]
     ∧ reports (after .voidSplit s) = [.unassigned 1 0 1000 .voided] ∧ answered (after .voidSplit s) = [0, 0])
    ∧ (let s := asking (racing gateCourse none (some finishedRun) [[], [], []] []) 0x34 [0, 9]
       s.NumbersDistinct ∧ s.tracker.course = some gateCourse ∧ gateCourse.number = finishedRun.courseNumber
       ∧ s.clock.count < (601000 : Tick)
       ∧ (after .voidSplit s).run 1
          = some { runNine .onCourse [startSplit, middleSplit] (some 601000) none with corrected := true }
       ∧ (after .voidSplit s).tracker.queues = [[], [], [1]] ∧ answered (after .voidSplit s) = [0, 2])
    ∧ (let due := { runNine .onCourse [startSplit] (some 5000) none with number := 8 }
       let s := asking (racing gateCourse (some due) (some finishedRun) [[], [0], []] []) 0x34 [0, 9]
       s.NumbersDistinct ∧ (after .voidSplit s).run 0 = some due
       ∧ (after .voidSplit s).tracker.queues = [[], [0], [1]]
       ∧ reports (after .voidSplit s) = [.unassigned 3 1 3500 .voided]
       ∧ reports (after .deadlineExpiry s) = [.runEnded 8 .overTime none])
    ∧ (let s := asking (racing groupCourse none (some ⟨9, .onCourse, 6, 2, [⟨0, .group, 1000, false⟩], none, none, false⟩) [[], [1]] []) 0x34 [0, 9]
       (after .voidSplit s).tracker.queues = [[1], []] ∧ (after .voidSplit s).tracker.unassigned = []
       ∧ reports (after .voidSplit s) = [])
    ∧ (let s := asking (onCourse.setUnassigned (List.replicate 16 ⟨⟨4, 2, 9, .manual⟩, .noRun⟩)) 0x34 [0, 9]
       reports (after .voidSplit s) = [.unassignedDropped 4 2, .unassigned 1 0 1000 .voided]
       ∧ (after .voidSplit s).tracker.unassigned.length = 16) :=
  ⟨⟨by decide +kernel, by decide +kernel, numbersDistinct_of (by decide +kernel), by decide +kernel⟩,
    ⟨numbersDistinct_of (by decide +kernel), by decide +kernel⟩,
    ⟨numbersDistinct_of (by decide +kernel), by decide +kernel⟩, by decide +kernel⟩

theorem witness_DiscardCrossingDiscards :
    (let s := asking (State.reset.setUnassigned [⟨⟨6, 0, 1, .sensor⟩, .noRun⟩, ⟨⟨6, 1, 2, .sensor⟩, .tooSoon⟩]) 0x35 [0, 0, 0, 6]
     s.session.state ≠ .closed ∧ s.NextIs 0x35 7 [0, 0, 0, 6]
     ∧ s.tracker.unassigned = [] ++ ⟨⟨6, 0, 1, .sensor⟩, .noRun⟩ :: [⟨⟨6, 1, 2, .sensor⟩, .tooSoon⟩]
     ∧ (after .discardCrossing s).tracker.unassigned = [⟨⟨6, 1, 2, .sensor⟩, .tooSoon⟩])
    ∧ answered (after .discardCrossing (asking State.reset 0x35 [0, 0, 0, 6])) = [0x07] := by decide +kernel

/-! ## Requests in general -/

theorem witness_GenericChecksRefuse :
    (let r : RequestEntry := ⟨0x06, 7, [], .waiting⟩
     let s := asking State.reset 0x06 []
     s.pins.resetLow = false ∧ s.nextRequest = some r ∧ ¬r.Known ∧ r.step = .unknownRequest
     ∧ answered (after .unknownRequest s) = [0x02])
    ∧ (let r : RequestEntry := ⟨0x10, 7, [0, 1], .waiting⟩
       let s := asking State.reset 0x10 [0, 1]
       s.nextRequest = some r ∧ r.Known ∧ ¬r.LengthRight ∧ r.step = .setGateEnable
       ∧ answered (after .setGateEnable s) = [0x03])
    ∧ (let r : RequestEntry := ⟨0x20, 7, [1, 0, 2, 0, 0], .waiting⟩
       let s := asking State.reset 0x20 [1, 0, 2, 0, 0]
       s.nextRequest = some r ∧ r.Known ∧ ¬r.LengthRight ∧ answered (after .setCourse s) = [0x03])
    ∧ (let r : RequestEntry := ⟨0x1E, 7, [], .waiting⟩
       let s := (asking State.reset 0x1E []).setSession State.reset.session
       s.nextRequest = some r ∧ r.LengthRight ∧ s.session.state = .closed
       ∧ r.code ∉ [(0x01 : Byte), 0x03, 0x04, 0x05] ∧ answered (after .readClock s) = [0x05]) := by
  refine ⟨⟨rfl, by decide +kernel, ?_, rfl, by decide +kernel⟩, ⟨by decide +kernel, .inr ⟨7, by decide⟩, ?_, rfl, by decide +kernel⟩,
    ⟨by decide +kernel, .inl rfl, ?_, by decide +kernel⟩, ⟨by decide +kernel, .inl (by decide), by decide +kernel⟩⟩
  · simp [requestTable]
  · simp [requestTable]
  · simp [requestTable]

theorem witness_PingAndStatusAnswer :
    (let s := (asking State.reset 0x03 []).setSession State.reset.session
     s.NextIs 0x03 7 [] ∧ answered (after .ping s) = [0x00])
    ∧ (let s := (asking (filed onCourse 1 1) 0x04 []).setSession State.reset.session
       s.NextIs 0x04 7 [] ∧ answered (after .status s)
        = [0, 208, 1, 2, 0, 0, 0x13, 0x88, 0, 1, 0, 0, 0, 1, 1, 1, 0, 1, 5, 0, 0, 0, 0]) := by decide +kernel

/-! ## The receiver -/

/-- The reset state with the receiver given. -/
def hearing (r : Receiver) : State := State.reset.setReceiver r

theorem witness_ReceiverCollectsOrDiscards :
    (hearing .hunting).pins.resetLow = false ∧ (hearing .hunting).link.breakHeld = false
    ∧ (after .syncByteFound (hearing .hunting)).link.receiver = .length
    ∧ (after (.lengthAccepted 4) (hearing .length)).link.receiver = .body 4 []
    ∧ (after (.lengthAccepted 244) (hearing .length)).link.receiver = .body 244 []
    ∧ (after (.bodyCharacter 9) (hearing (.body 4 [1, 2, 3, 4]))).link.receiver = .body 4 [1, 2, 3, 4, 9]
    ∧ (after (.lengthOutOfRange 3) (hearing .length)).link.receiver = .hunting
    ∧ (after (.lengthOutOfRange 245) (hearing .length)).link.badFrames = 1
    ∧ (let s := { hearing (.body 4 [1]) with instant := 100 }
       s.link.lastCharacter + 100 ≤ s.instant ∧ (after .interCharacterGap s).link.receiver = .hunting)
    ∧ (after .framingError (hearing .length)).link.badFrames = 1
    ∧ (after .syncByteFound (hearing .lapsed)).link.receiver = .length
    ∧ (after .syncByteFound (hearing .lapsed)).link.badFrames = 1
    ∧ (after .framingError (hearing .lapsed)).link.badFrames = 1 ∧ (after .lineBreak (hearing .lapsed)).link.badFrames = 0
    ∧ after .framingError (hearing .hunting) = hearing .hunting := by decide +kernel

/-- The state in which all but the last character of a frame has been collected. -/
def almost (s : State) (body : List Byte) : State :=
  s.setReceiver (.body (byteOf body.length) (body ++ [(crc16 (byteOf body.length :: body)).extractLsb' 8 8]))

theorem completes_almost (s : State) (body : List Byte) (h : s.pins.resetLow = false) (h' : s.link.breakHeld = false)
    (hb : body.length ≤ 244) :
    (almost s body).Completes ((crc16 (byteOf body.length :: body)).extractLsb' 0 8) body :=
  ⟨h, h', hb, _, rfl, by simp [bytes16]⟩

theorem witness_BadFramesAreCounted :
    (let body : List Byte := [0x40, 0, 0, 0]
     (almost State.reset body).Completes ((crc16 (byteOf 4 :: body)).extractLsb' 0 8) body
     ∧ (after (.frameComplete ((crc16 (byteOf 4 :: body)).extractLsb' 0 8)) (almost State.reset body)).link.badFrames = 1)
    ∧ (let cs : List Byte := [3, 0, 0, 0, 0]
       (cs ++ [0]).drop 4 ≠ bytes16 (crc16 (4 :: cs.take 4)) ∧ (∀ x ∈ (4 :: cs ++ [0] : List Byte), x ≠ 0xD3)
       ∧ (after (.frameComplete 0) (hearing (.body 4 cs))).link.receiver = .hunting)
    ∧ (let cs : List Byte := [3, 0, 0, 0, 0]
       (cs ++ [0xD3]).drop 4 ≠ bytes16 (crc16 (4 :: cs.take 4))
       ∧ (after (.frameComplete 0xD3) (hearing (.body 4 cs))).link.receiver = .length)
    ∧ (let cs : List Byte := [3, 0xD3, 4, 0, 0]
       (cs ++ [1]).drop 4 ≠ bytes16 (crc16 (4 :: cs.take 4))
       ∧ (after (.frameComplete 1) (hearing (.body 4 cs))).link.receiver = .body 4 [0, 0, 1]
       ∧ (after (.frameComplete 1) (hearing (.body 4 cs))).link.badFrames = 1) :=
  ⟨⟨completes_almost _ _ rfl rfl (by decide), by decide +kernel⟩, by decide +kernel⟩

/-- After a bad CRC: two characters passed over, a whole good PING (its CRC by hand from R161), and a length byte of 2. -/
theorem witness_BadFramesAreCounted_examined :
    let cs : List Byte := [3, 0xD3, 4, 3, 9, 0, 0, 0x9D, 0x47, 0xD3]
    let s := hearing (.body 9 cs)
    let u := { s with link := { s.link.received s.instant with badFrames := s.link.badFrames.saturatingSucc } }
    (cs ++ [2]).drop 9 ≠ bytes16 (crc16 (9 :: cs.take 9))
    ∧ (∃ t, Examined u (9 :: cs ++ [2]) t ∧ t.link.badFrames = 2 ∧ t.link.buffer = [⟨0x03, 9, [], .waiting⟩])
    ∧ (after (.frameComplete 2) s).link.badFrames = 2
    ∧ (after (.frameComplete 2) s).link.buffer = [⟨0x03, 9, [], .waiting⟩] := by
  refine ⟨by decide +kernel, ⟨_, .passed (by decide) (.passed (by decide) (.request (payload := []) (by decide) (by decide)
    (by decide +kernel) (by decide) (.badLength (by decide) (.passed (by decide) .used)))), ?_, ?_⟩, by decide +kernel,
    by decide +kernel⟩ <;> decide +kernel

/-- Three reports with sequences 1 to 3, the first `n` of them in flight. -/
def threeReports (n : Nat) : List Report :=
  [1, 2, 3].map fun k => ⟨BitVec.ofNat 16 k, .reset .external, 0, none, if k ≤ n then .inFlight else .unsent⟩

/-- A session with three reports, `n` in flight, whose retry timer runs out at 2500. -/
def inFlight (state : SessionState) (n : Nat) : State :=
  { State.reset with session := ⟨state, 3, 2, if state = .silent then 0 else 5, if n = 0 then none else some 2500,
      if state = .opened then some 20000 else none, threeReports n, 0, 4⟩ }

/-- The body and the last character of a PING that acknowledges the report with sequence `ack`. -/
def pingBody (tag ack : Byte) : List Byte := [0x03, tag, 0, ack]
def lastOf (body : List Byte) : Byte := (crc16 (byteOf body.length :: body)).extractLsb' 0 8

theorem witness_RequestFrameArrives :
    (let s := almost State.reset (pingBody 0 1)
     s.Completes (lastOf (pingBody 0 1)) (pingBody 0 1) ∧ s.session.state = .closed
     ∧ (after (.frameComplete (lastOf (pingBody 0 1))) s).session = s.session)
    ∧ (let s := almost (inFlight .silent 0) (pingBody 0 2)
       s.Completes (lastOf (pingBody 0 2)) (pingBody 0 2) ∧ s.session.state ≠ .closed
       ∧ (∀ r ∈ s.session.reports, r.sequence = word16 0 2 → r.delivery = .unsent)
       ∧ (after (.frameComplete (lastOf (pingBody 0 2))) s).session.state = .opened
       ∧ (after (.frameComplete (lastOf (pingBody 0 2))) s).session.keepaliveTimer = some 20000)
    ∧ (let s := almost (inFlight .opened 2) (pingBody 0 2)
       s.Completes (lastOf (pingBody 0 2)) (pingBody 0 2)
       ∧ s.session.reports = [⟨1, .reset .external, 0, none, .inFlight⟩] ++ ⟨2, .reset .external, 0, none, .inFlight⟩
          :: [⟨3, .reset .external, 0, none, .unsent⟩]
       ∧ (after (.frameComplete (lastOf (pingBody 0 2))) s).session.reports = [⟨3, .reset .external, 0, none, .unsent⟩]
       ∧ (after (.frameComplete (lastOf (pingBody 0 2))) s).session.retryTimer = none
       ∧ (after (.frameComplete (lastOf (pingBody 0 2))) s).session.retryCount = 0)
    ∧ (after (.frameComplete (lastOf (pingBody 0 1))) (almost (inFlight .opened 2) (pingBody 0 1))).session.retryTimer
        = some 2500 :=
  ⟨⟨completes_almost _ _ rfl rfl (by decide), by decide +kernel⟩,
    ⟨completes_almost _ _ rfl rfl (by decide), by decide +kernel⟩,
    ⟨completes_almost _ _ rfl rfl (by decide), by decide +kernel⟩, by decide +kernel⟩

/-- The reset state with the buffer, the reply cache and the short reply slot given. -/
def holding (buffer : List RequestEntry) (cached : Option CachedReply) (short : Option (List Byte)) : State :=
  State.reset.setLink { State.reset.link with buffer := buffer, replyCache := cached, shortReply := short }

/-- The Link Controller after a PING with tag 9 arrives. -/
def pinged (s : State) : LinkController :=
  (after (.frameComplete (lastOf (pingBody 9 0))) (almost s (pingBody 9 0))).link

theorem witness_ArrivalsAreScreened :
    (almost State.reset (pingBody 9 0)).Completes (lastOf (pingBody 9 0)) (pingBody 9 0)
    ∧ (pinged State.reset).buffer = [⟨0x03, 9, [], .waiting⟩]
    ∧ (pinged (holding [⟨0x03, 9, [], .waiting⟩] none none)).buffer = [⟨0x03, 9, [], .waiting⟩]
    ∧ (pinged (holding [] (some ⟨0x03, 9, [1, 2]⟩) none)).shortReply = some [1, 2]
    ∧ (pinged (holding [] (some ⟨0x03, 9, [1, 2]⟩) (some [5]))).shortReply = some [5]
    ∧ (pinged (holding [] (some ⟨0x03, 9, [1, 2]⟩) none)).buffer = []
    ∧ (pinged (holding [⟨0x03, 8, [], .waiting⟩, ⟨0x04, 9, [], .waiting⟩] none none)).shortReply
        = some (frameOf [0x83, 9, 0x01])
    ∧ (pinged (holding [⟨0x03, 8, [], .waiting⟩] none none)).buffer.length = 2 :=
  ⟨completes_almost _ _ rfl rfl (by decide), by decide +kernel⟩

theorem witness_WholeFramesAreReceived :
    State.reset.pins.resetLow = false ∧ State.reset.link.breakHeld = false ∧ State.reset.link.receiver = .hunting
    ∧ ((runAll (receiving [0x05, 0, 0, 0]) State.reset).map fun s => s.link.buffer) = some [⟨0x05, 0, [], .waiting⟩] := by
  decide +kernel

/-- The reset state, which a link reset has left with a request in hand. -/
def inHand (s : State) (code : Byte) (payload : List Byte) : State :=
  s.setLink { s.link with inHand := some ⟨code, 7, payload, .executing⟩ }

/-- A request in front at a break, in hand after it or dropped. -/
theorem witness_BreakResetsTheLink_hand :
    (let s := asking (inFlight .opened 2) 0x03 []
     s.pins.resetLow = false ∧ s.link.breakHeld = false ∧ s.resetDecided = false ∧ s.HoldLaw
     ∧ s.nextRequest = some ⟨0x03, 7, [], .waiting⟩ ∧ genericRefusal s.session.state ⟨0x03, 7, [], .waiting⟩ = none
     ∧ after .lineBreak s = if Config.meeting 0 then s.meet.breakWith (some ⟨0x03, 7, [], .executing⟩) false
        else s.meet.breakWith none false)
    ∧ (after .openSession (inHand State.reset 0x01 [3, 0, 0])).session.state = .opened
    ∧ (after .openSession (inHand State.reset 0x01 [3, 0, 0])).link = State.reset.link
    ∧ after .ping (inHand State.reset 0x01 [3, 0, 0]) = inHand State.reset 0x01 [3, 0, 0]
    ∧ after .holdAssignment (inHand State.reset 0x30 []) = State.reset
    ∧ after .closeSession (inHand State.reset 0x02 []) = State.reset
    ∧ (let s := inHand (clocked .running 55) 0x1B []
       RequestEntry.LengthRight ⟨0x1B, 7, [], .executing⟩ ∧ RequestEntry.step ⟨0x1B, 7, [], .executing⟩ = .haltClock
       ∧ (after .haltClock s).clock.state = .halting 100 ∧ (after .haltClock s).session.state = .closed
       ∧ answered (after .haltClock (s.alone ⟨0x1B, 7, [], .executing⟩)) = [0x00])
    ∧ (let s := inHand (gated .idle false false true false (clocked .idle 0)) 0x18 [1]
       s.pins.resetLow = false ∧ (s.gate 1).config.enabled = true
       ∧ reports (after .armClock s) = [.clockState .armed .request] ∧ (after .armClock s).link.inHand = none) :=
  ⟨⟨by decide, by decide, by decide +kernel, by decide, by decide +kernel, by decide +kernel, rfl⟩, by decide +kernel⟩

theorem witness_BreakResetsTheLink :
    (let s := { inFlight .opened 2 with tracker := { CourseTracker.reset with assignment := .held } }
     s.pins.resetLow = false ∧ s.link.breakHeld = false ∧ s.resetDecided = false ∧ s.HoldLaw
     ∧ (after .lineBreak s).tracker.assignment = .taking ∧ (after .lineBreak s).session.state = .closed
     ∧ (after .lineBreak s).session.reports.map (·.delivery) = [.unsent, .unsent, .unsent, .unsent]
     ∧ (reports (after .lineBreak s)).getLast? = some (.holdReleased .linkReset)
     ∧ (after .lineBreak s).link.breakHeld = true ∧ after .lineBreak (after .lineBreak s) = after .lineBreak s
     ∧ (after .breakEnd (after .lineBreak s)).link.breakHeld = false) := by decide +kernel

/-! ## The transmitter -/

/-- The state with the transmitter given. -/
def sending (s : State) (t : Transmitter) : State := s.setLink { s.link with transmitter := t }

/-- The Link Controller with two READY replies, the first to the request that arrived first. -/
def twoReady (short : Option (List Byte)) : State :=
  holding [⟨0x03, 8, [], .ready [1]⟩, ⟨0x04, 9, [], .ready [2]⟩] none short

theorem witness_FrameStartChooses :
    (after .frameStart (twoReady (some [7]))).link.transmitter = .shortReply [7]
    ∧ (let s := twoReady none
       s.pins.resetLow = false ∧ s.link.transmitter = .free ∧ s.link.shortReply = none
       ∧ s.link.buffer = [] ++ ⟨0x03, 8, [], .ready [1]⟩ :: [⟨0x04, 9, [], .ready [2]⟩]
       ∧ (after .frameStart s).link.transmitter = .bufferReply [1]
       ∧ (after .frameStart s).link.buffer = [⟨0x03, 8, [], .sending [1]⟩, ⟨0x04, 9, [], .ready [2]⟩])
    ∧ (let s := inFlight .opened 2
       s.session.reports.countP (fun r => r.delivery = .inFlight) < s.session.window.toNat ∧ s.resetDecided = false
       ∧ (after .frameStart s).link.transmitter = .report 3 (reportFrame ⟨3, .reset .external, 0, none, .unsent⟩))
    ∧ after .frameStart (inFlight .opened 3) = inFlight .opened 3
    ∧ after .frameStart (inFlight .silent 0) = inFlight .silent 0
    ∧ after .frameStart (sending (twoReady none) (.shortReply [7])) = sending (twoReady none) (.shortReply [7]) := by
  decide +kernel

/-- A READY reply and a report become present together. -/
theorem witness_FrameStartChooses_together :
    let s := (inFlight .opened 2).setLink (twoReady none).link
    s.pins.resetLow = false ∧ s.link.transmitter = .free ∧ s.link.openChoice = true
    ∧ s.Offers ⟨3, .reset .external, 0, none, .unsent⟩
    ∧ after .frameStart s = (if Config.meeting 0 then s.meet.startReport else s.meet.startNext)
    ∧ s.meet.startReport.link.transmitter = .report 3 (reportFrame ⟨3, .reset .external, 0, none, .unsent⟩)
    ∧ s.meet.startNext.link.transmitter = .bufferReply [1] :=
  ⟨rfl, rfl, rfl, ⟨rfl, by decide +kernel, by decide +kernel, rfl, (threeReports 2).take 2, [], rfl, by decide +kernel⟩, rfl,
    by decide +kernel⟩

/-- The CRC of R161's nine characters, and a PING reply and a RESET report byte by byte, their CRCs by hand from R161. -/
theorem witness_FramesAreLaidOut :
    crc16 [0x31, 0x32, 0x33, 0x34, 0x35, 0x36, 0x37, 0x38, 0x39] = 0x29B1
    ∧ replyFrame 0x03 9 .ok = [0xD3, 3, 0x83, 9, 0x00, 0xC7, 0x8E]
    ∧ reportFrame ⟨1, .reset .external, 0, none, .unsent⟩
        = [0xD3, 9, 0xC0, 0, 1, 0x01, 0, 0, 0, 0, 0, 0xD9, 0x9D] := by decide +kernel

theorem witness_RepliesSent :
    (let s := sending (holding [] none (some [7])) (.shortReply [7])
     s.pins.resetLow = false ∧ s.link.transmitter = .shortReply [7]
     ∧ (after .shortReplySent s).link.shortReply = none ∧ (after .shortReplySent s).link.transmitter = .free)
    ∧ (let s := sending (holding [⟨0x05, 8, [0], .sending [1]⟩, ⟨0x04, 9, [], .ready [2]⟩] none none) (.bufferReply [1])
       s.link.transmitter = .bufferReply [1]
       ∧ s.link.buffer = [] ++ ⟨0x05, 8, [0], .sending [1]⟩ :: [⟨0x04, 9, [], .ready [2]⟩]
       ∧ (after .bufferReplySent s).link.buffer = [⟨0x04, 9, [], .ready [2]⟩]
       ∧ (after .bufferReplySent s).link.replyCache = some ⟨0x05, 8, [1]⟩) := by decide +kernel

theorem witness_ResetPartResets :
    (let s := asking onCourse 0x05 []
     s.NextIs 0x05 7 [] ∧ (after .resetPart s).resetDecided = true ∧ (after .resetPart s).tracker = s.tracker
     ∧ answered (after .resetPart s) = [0x00] ∧ (after .resetPart s).nextRequest = none)
    ∧ (let s := { sending (holding [⟨0x05, 8, [], .sending [1]⟩] none none) (.bufferReply [1]) with tracker := onCourse.tracker, instant := 77 }
       s.pins.resetLow = false ∧ s.link.transmitter = .bufferReply [1]
       ∧ s.link.buffer = [] ++ ⟨0x05, 8, [], .sending [1]⟩ :: []
       ∧ (after .bufferReplySent s).tracker = CourseTracker.reset ∧ (after .bufferReplySent s).instant = 77
       ∧ reports (after .bufferReplySent s) = [.reset .request])
    ∧ (let s := holding [⟨0x05, 8, [], .ready [1]⟩] none none
       s.resetDecided = true ∧ reports (after .lineBreak s) = [.reset .request]
       ∧ (after .lineBreak s).link.breakHeld = true)
    ∧ (let s := asking State.reset 0x05 []
       s.NextIs 0x05 7 [] ∧ s.link.breakHeld = false ∧ reports (s.meet.breakWith (s.handOf ⟨0x05, 7, [], .waiting⟩) true)
        = [.reset .request]) := by decide +kernel

/-! ## The session and report delivery -/

theorem witness_ReportsAreStored :
    (let s := (inFlight .opened 2).setSession { (inFlight .opened 2).session with pendingLoss := 3 }
     s.session.reports.length < 48
     ∧ (s.report (.gateAlarm 2 .blocked)).session.reports.getLast? = some ⟨4, .gateAlarm 2 .blocked, 0, some 3, .unsent⟩
     ∧ (s.report (.gateAlarm 2 .blocked)).session.pendingLoss = 0)
    ∧ (let s := State.reset.setSession { State.reset.session with
          reports := List.replicate 48 ⟨1, .reset .external, 0, none, .unsent⟩, pendingLoss := 0xFFFF }
       48 ≤ s.session.reports.length ∧ s.report (.gateAlarm 2 .blocked) = s) := by decide +kernel

theorem witness_ReportSentGoesInFlight :
    (let s := sending (inFlight .opened 2) (.report 3 [])
     s.session.Lawful ∧ s.pins.resetLow = false ∧ s.link.transmitter = .report 3 []
     ∧ s.session.reports = threeReports 2 ∧ s.session.state = .opened
     ∧ s.session.reports.countP (fun r => r.delivery = .inFlight) < s.session.window.toNat
     ∧ (after .reportSent s).session.reports = threeReports 3 ∧ (after .reportSent s).link.transmitter = .free)
    ∧ (let s := sending (inFlight .opened 0) (.report 1 [])
       (after .reportSent s).session.retryTimer = some 2500)
    ∧ (let s := sending (inFlight .silent 0) (.report 1 [])
       s.session.Lawful ∧ (after .reportSent s).session = s.session)
    ∧ (let s := sending (inFlight .opened 0) (.report 2 [])
       s.session.Lawful ∧ (after .reportSent s).session = s.session) :=
  ⟨⟨by decide +kernel, by decide +kernel⟩, by decide +kernel, ⟨by decide +kernel, by decide +kernel⟩, by decide +kernel,
    by decide +kernel⟩

theorem witness_TimersExpire :
    (let s := { inFlight .opened 2 with instant := 2500 }
     s.pins.resetLow = false ∧ s.session.state = .opened ∧ s.session.retryTimer = some 2500 ∧ 6 ≤ s.session.retryCount + 1
     ∧ (after .retryTimerExpiry s).hlost = true ∧ (after .retryTimerExpiry s).session.reports = threeReports 0)
    ∧ (let s := { inFlight .opened 2 with instant := 2500 }
       let s := s.setSession { s.session with retryCount := 4 }
       s.session.retryCount + 1 < 6 ∧ (after .retryTimerExpiry s).session.retryCount = 5
       ∧ (after .retryTimerExpiry s).session.reports = threeReports 0)
    ∧ (let s := { inFlight .opened 0 with instant := 20000 }
       s.session.keepaliveTimer = some 20000 ∧ (after .keepaliveExpiry s).session.state = .silent) := by decide +kernel

theorem witness_SessionsOpenAndClose :
    (let s := (asking (inFlight .opened 2) 0x01 [8, 120, 0]).setSession (inFlight .opened 2).session
     s.NextIs 0x01 7 [8, 120, 0] ∧ answered (after .openSession s) = [0, 1, 0, 1, 0, 4]
     ∧ (after .openSession s).session.reports = threeReports 0
     ∧ (after .openSession s).session.keepaliveTimer = some 1200000)
    ∧ (let s := (asking (inFlight .opened 2) 0x01 [1, 0, 1]).setSession (inFlight .opened 2).session
       (after .openSession s).session.reports = [] ∧ answered (after .openSession s) = [0, 0, 0, 0, 0, 4])
    ∧ answered (after .openSession (asking State.reset 0x01 [0, 0, 0])) = [0x04]
    ∧ answered (after .openSession (asking State.reset 0x01 [9, 0, 0])) = [0x04]
    ∧ answered (after .openSession (asking State.reset 0x01 [1, 121, 0])) = [0x04]
    ∧ answered (after .openSession (asking State.reset 0x01 [1, 0, 2])) = [0x04]
    ∧ (let s := { asking onCourse 0x02 [] with tracker := { onCourse.tracker with assignment := .held } }
       s.session.state ≠ .closed ∧ s.NextIs 0x02 7 [] ∧ s.HoldLaw ∧ (after .closeSession s).session.state = .closed
       ∧ reports (after .closeSession s) = [.holdReleased .sessionClosed]) := by decide +kernel

/-! ## What every step keeps -/

/-- The state after a step that answers a next state. -/
def stepped (s : State) : State :=
  match step s with
  | .next t => t
  | .fault _ => s
  | .refused _ => s

/-! States that meet the laws, each with a command in front. -/

theorem witness_TrackerLawKept :
    let s := { waitingAt 1200 with pending := [.take] }
    s.TrackerLaw ∧ (stepped s).tracker.queues = [[], [], [1]] := ⟨tracker_onCourse _ rfl, by decide +kernel⟩

theorem witness_DeliveryLawsKept_HoldLawKept :
    let s := { inFlight .opened 2 with
      tracker := { CourseTracker.reset with assignment := .held }, pending := [.tickInstant 0] }
    s.session.Lawful ∧ s.HoldLaw ∧ (stepped s).instant = 1 := ⟨by decide +kernel, by decide, by decide +kernel⟩

theorem witness_TimeLawKept_GateLawsKept_CountNeverDecreases :
    let s := { asking quiet 0x1D [] with clock := ⟨.halted, 700⟩, pending := [.clearClock] }
    s.TimeLaw ∧ s.GatesLawful ∧ (stepped s).clock.count = 0 ∧ (after .clearClock s).clock.count < s.clock.count := by
  refine ⟨⟨Or.inl rfl, fun g => ?_, by decide +kernel, fun _ => rfl⟩, fun g => ?_, by decide +kernel, by decide +kernel⟩
  · fin_cases g <;> first | exact trivial | exact ⟨by decide +kernel, by decide +kernel⟩
  · fin_cases g <;> exact ⟨by decide +kernel, rfl, rfl⟩

theorem witness_LinkAndCapacityLawsKept :
    let s := { sending (holding [⟨0x03, 8, [], .sending [1]⟩] none none) (.bufferReply [1]) with
      crossings := ⟨[⟨6, 0, 1, .manual⟩], 7⟩, pending := [.bufferReplySent] }
    s.link.Lawful ∧ s.link.receiver.Lawful ∧ s.WithinCapacity ∧ s.crossings.IdsConsecutive
    ∧ (stepped s).link.buffer = [] := by
  refine ⟨⟨by decide, by decide, fun _ h => (nomatch h), by decide, by decide, _, List.mem_singleton.2 rfl, rfl⟩, trivial, by decide +kernel,
    by decide +kernel, by decide +kernel⟩

end Sys2Proof.Tests
end

section
/-! PROOFS. ARM CLOCK, DISARM CLOCK and READ CLOCK (R4, R5, R15, R24): what each request's act does to the Race Clock and
the gates, and from it the step that takes the request. -/

namespace Sys2Proof.Machine

/-! ## A request in front, by what its payload parses to -/

@[simp] theorem codeIs_self (code tag : Byte) (p : List Byte) (st : EntryState) :
    codeIs code ⟨code, tag, p, st⟩ = true :=
  beq_self_eq_true code

section Front

variable {α : Type} {s : State} {code tag : Byte} {p : List Byte} {parse : List Byte → Option α}
  {act : State → α → State × Response}

/-- A request in front that passes the generic checks does what its owner's act does, and is answered with its response. -/
theorem State.live_serve_acts {a : α} {t : State} {r : Response} (hact : ActsBeside act s) (hn : s.NextIs code tag p)
    (hf : payloadFits code p = some true) (hc : s.session.state ≠ .closed) (hp : parse p = some a)
    (ha : act s a = (t, r)) :
    s.live (·.serve (codeIs code) parse act) = t.setLink (s.link.answer r) := by
  simp only [State.live_serve hact hn (codeIs_self code tag p .waiting) hf (.inl hc), hp, ha]

/-- A request in front whose payload does not parse is answered BAD_VALUE and changes nothing else (R136, check 4). -/
theorem State.live_serve_badValue (hact : ActsBeside act s) (hn : s.NextIs code tag p)
    (hf : payloadFits code p = some true) (hc : s.session.state ≠ .closed) (hp : parse p = none) :
    s.live (·.serve (codeIs code) parse act) = s.setLink (s.link.answer (.refuse .badValue)) := by
  simp only [State.live_serve hact hn (codeIs_self code tag p .waiting) hf (.inl hc), hp]

end Front

/-! ## ARM CLOCK (R4) -/

theorem State.armClock_idle {s : State} {g : Gate} (hs : s.clock.state = .idle)
    (he : (s.gate g).config.enabled = true) :
    s.armClock g = (s.changeClock (.armed g) s.clock.count .request, .ok) := by
  simp [State.armClock, hs, State.gateEnabled, he]

theorem State.armClock_refused {s : State} {g : Gate}
    (h : s.clock.state ≠ .idle ∨ (s.gate g).config.enabled = false) :
    s.armClock g = (s, .refuse .wrongState) := by
  unfold State.armClock
  cases hs : s.clock.state with
  | idle =>
    have he : (s.gate g).config.enabled = false := h.resolve_left (absurd hs)
    simp [State.gateEnabled, he]
  | armed _ | running | halting _ | halted => rfl

/-- The step of an ARM CLOCK that names a gate is its act, and the reply. -/
theorem exec_armClock_gate {s t : State} {tag : Byte} {g : Gate} {r : Response} (hc : s.session.state ≠ .closed)
    (hn : s.NextIs 0x18 tag [BitVec.ofNat 8 g]) (ha : s.armClock g = (t, r)) :
    exec .armClock s = .next (t.setLink (s.link.answer r)) :=
  congrArg Host.Outcome.next
    (State.live_serve_acts (armClock_ignoresLink.beside s) hn rfl hc (parseGate_ofNat g) ha)

/-- An ARM CLOCK that names no gate is refused. -/
theorem exec_armClock_badValue {s : State} {tag b : Byte} (hc : s.session.state ≠ .closed)
    (hn : s.NextIs 0x18 tag [b]) (hb : 7 < b.toNat) :
    exec .armClock s = .next (s.setLink (s.link.answer (.refuse .badValue))) :=
  congrArg Host.Outcome.next
    (State.live_serve_badValue (armClock_ignoresLink.beside s) hn rfl hc (parseGate_none hb))

/-! ## DISARM CLOCK (R5) -/

/-- The stale mark is set on a pulse that is qualifying; a gate in any other state stays as it is (R24). -/
theorem GateUnit.markStale_eq (u : GateUnit) : u.markStale =
    match u.phase with
    | .qualifying t e _ => { u with phase := .qualifying t e true }
    | _ => u := by
  unfold GateUnit.markStale
  cases u.phase <;> rfl

theorem State.gate_staleNotice (s : State) (h : Gate) : s.staleNotice.gate h = (s.gate h).markStale := by
  fin_cases h <;> rfl

/-- The notice of IDLE marks each gate and changes nothing else (R24). -/
theorem State.staleNotice_eq {s : State} {gs : Vector GateUnit 8} (h : ∀ g : Gate, gs[g] = (s.gate g).markStale) :
    s.staleNotice = { s with gates := gs } := by
  have hg : s.staleNotice.gates = gs :=
    Vector.ext fun i hi => (s.gate_staleNotice ⟨i, hi⟩).trans (h ⟨i, hi⟩).symm
  rw [← hg]
  rfl

theorem State.disarmClock_armed {s : State} {g : Gate} (hs : s.clock.state = .armed g) :
    s.disarmClock () = (s.staleNotice.changeClock .idle s.clock.count .request, .ok) := by
  simp [State.disarmClock, hs]

theorem State.disarmClock_refused {s : State} (h : ∀ g, s.clock.state ≠ .armed g) :
    s.disarmClock () = (s, .refuse .wrongState) := by
  unfold State.disarmClock
  cases hs : s.clock.state with
  | armed g => exact absurd hs (h g)
  | idle | running | halting _ | halted => rfl

/-- The step of a DISARM CLOCK is its act, and the reply. -/
theorem exec_disarmClock {s t : State} {tag : Byte} {r : Response} (hc : s.session.state ≠ .closed)
    (hn : s.NextIs 0x19 tag []) (ha : s.disarmClock () = (t, r)) :
    exec .disarmClock s = .next (t.setLink (s.link.answer r)) :=
  congrArg Host.Outcome.next (State.live_serve_acts (disarmClock_ignoresLink.beside s) hn rfl hc rfl ha)

/-- Settles O12: the steps of the two requests, by the clock state and, of ARM CLOCK, by its gate. -/
theorem armAndDisarmClock : Obligations.ArmAndDisarmClock := by
  refine ⟨fun s tag b hc hn => ⟨exec_armClock_badValue hc hn, ?_⟩, fun s tag hc hn => ⟨?_, fun hs => ?_⟩⟩
  · rintro g rfl
    exact ⟨fun hs he => exec_armClock_gate hc hn (State.armClock_idle hs he),
      fun h => exec_armClock_gate hc hn (State.armClock_refused h)⟩
  · intro g gs hs hgs
    have hgates : ∀ h : Gate, gs[h] = (s.gate h).markStale := fun h =>
      (hgs h).trans (s.gate h).markStale_eq.symm
    rw [exec_disarmClock hc hn (State.disarmClock_armed hs), State.staleNotice_eq hgates]
    rfl
  · exact exec_disarmClock hc hn (State.disarmClock_refused hs)

/-! ## READ CLOCK (R15) -/

/-- READ CLOCK's payload, by the codes that its three fields of the clock state have. -/
theorem clockPayload_eq {c : RaceClock} {state trigger : Byte} {target : Tick} (hm : c.state.mode.code = state)
    (hg : gateField c.state.triggerGate = trigger) (ht : c.state.haltTarget.getD 0 = target) :
    clockPayload c = state :: bytes32 c.count ++ trigger :: bytes32 target := by
  rw [clockPayload, hm, hg, ht]

theorem exec_readClock {s : State} {tag : Byte} (hc : s.session.state ≠ .closed) (hn : s.NextIs 0x1E tag []) :
    exec .readClock s = .next (s.setLink (s.link.answer (.ok (clockPayload s.clock)))) :=
  congrArg Host.Outcome.next (State.live_serve_acts (readClock_ignoresLink.beside s) hn rfl hc rfl rfl)

/-- Settles O16: the payload of the reply, in each of the five clock states. -/
theorem readClockReads : Obligations.ReadClockReads := by
  intro s tag state trigger target hc hn hfields
  have hpayload : clockPayload s.clock = state :: bytes32 s.clock.count ++ trigger :: bytes32 target := by
    obtain ⟨hs, rfl, rfl, rfl⟩ | ⟨g, hs, rfl, rfl, rfl⟩ | ⟨hs, rfl, rfl, rfl⟩ | ⟨hs, rfl, rfl⟩ | ⟨hs, rfl, rfl, rfl⟩ :=
      hfields
    all_goals apply clockPayload_eq <;> rw [hs] <;> rfl
  rw [exec_readClock hc hn, hpayload]
  rfl

end Sys2Proof.Machine
end

section
/-! PROOFS. GET GATE (R20): what its payload parses to, what its act does to the gate that it names, and from the two the
step that takes the request. -/

namespace Sys2Proof.Machine

/-! ## The fields of a GET GATE (R20, R163) -/

theorem parseYesNo_flag {b : Byte} (h : b.toNat ≤ 1) : parseYesNo b = some (decide (b = 1)) := by
  obtain rfl | rfl := byte_zero_or_one (Nat.not_lt.mpr h)
  · exact parseYesNo_zero
  · exact parseYesNo_one

theorem parseGetGate_outOfRange {bg clear : Byte} (h : 7 < bg.toNat ∨ 1 < clear.toNat) :
    parseGetGate [bg, clear] = none := by
  obtain hg | hc := h
  · simp [parseGetGate, parseGate_none hg]
  · simp [parseGetGate, parseYesNo_none hc]

theorem parseGetGate_inRange (g : Gate) {clear : Byte} (h : clear.toNat ≤ 1) :
    parseGetGate [BitVec.ofNat 8 g, clear] = some (g, decide (clear = 1)) := by
  simp [parseGetGate, parseGate_ofNat, parseYesNo_flag h]

/-! ## The act and the step -/

/-- GET GATE answers the unit as it stands, and changes at most the counters of the gate that it names (R20). -/
theorem State.readGate_eq (s : State) (g : Gate) (clear : Bool) :
    s.readGate (g, clear) =
      ({ s with gates := if clear then s.gates.set g { s.gate g with counters := ⟨0, 0, 0, 0⟩ } else s.gates },
        .ok (gatePayload (s.gate g))) := by
  cases clear with
  | false => rfl
  | true => rfl

/-- A GET GATE whose payload does not parse is refused. -/
theorem exec_getGate_badValue {s : State} {tag bg clear : Byte} (hc : s.session.state ≠ .closed)
    (hn : s.NextIs 0x11 tag [bg, clear]) (hp : parseGetGate [bg, clear] = none) :
    exec .getGate s = .next (s.setLink (s.link.answer (.refuse .badValue))) :=
  congrArg Host.Outcome.next (State.live_serve_badValue (readGate_ignoresLink.beside s) hn rfl hc hp)

/-- The step of a GET GATE whose payload parses is its act, and the reply. -/
theorem exec_getGate {s t : State} {tag bg clear : Byte} {a : Gate × Bool} {r : Response}
    (hc : s.session.state ≠ .closed) (hn : s.NextIs 0x11 tag [bg, clear])
    (hp : parseGetGate [bg, clear] = some a) (ha : s.readGate a = (t, r)) :
    exec .getGate s = .next (t.setLink (s.link.answer r)) :=
  congrArg Host.Outcome.next (State.live_serve_acts (readGate_ignoresLink.beside s) hn rfl hc hp ha)

/-- Settles O11: the step of the request, by whether its payload parses; the clear flag is yes exactly when it is 1. -/
theorem getGateReadsAndClears : Obligations.GetGateReadsAndClears := by
  refine fun s tag bg clear hc hn => ⟨fun hbad => exec_getGate_badValue hc hn (parseGetGate_outOfRange hbad), ?_⟩
  rintro g u rfl rfl hflag
  rw [exec_getGate hc hn (parseGetGate_inRange g hflag) (s.readGate_eq g _)]
  simp only [decide_eq_true_eq]
  rfl

end Sys2Proof.Machine
end

section
/-! PROOFS. READ QUEUE and READ UNASSIGNED (R105, R106): a request in front in a CLOSED session, what each request's act
answers, and from the two the step that takes the request. -/

namespace Sys2Proof.Machine

/-- A request in front of a CLOSED session, of a kind that needs a session, is answered NOT_OPEN and changes nothing
else (R136, check 3). -/
theorem State.live_serve_notOpen {α : Type} {s : State} {code tag : Byte} {p : List Byte}
    {parse : List Byte → Option α} {act : State → α → State × Response} (hact : ActsBeside act s)
    (hn : s.NextIs code tag p) (hf : payloadFits code p = some true) (hp : passesClosed code = false)
    (hc : s.session.state = .closed) :
    s.live (·.serve (codeIs code) parse act) = s.setLink (s.link.answer (.refuse .notOpen)) := by
  have hg : genericRefusal s.session.state ⟨code, tag, p, .waiting⟩ = some .notOpen := by
    simp [genericRefusal, hf, hc, hp]
  exact State.live_serve_refused hact hn.1 hn.2 (codeIs_self code tag p .waiting) hg

/-! ## READ QUEUE (R105) -/

theorem State.readQueue_noCourse {s : State} {k : Nat} (h : s.tracker.course = none) :
    s.readQueue k = (s, .refuse .noCourse) := by
  simp [State.readQueue, h]

theorem State.readQueue_badValue {s : State} {course : Course} {k : Nat} (h : s.tracker.course = some course)
    (hk : course.steps.length ≤ k) : s.readQueue k = (s, .refuse .badValue) := by
  simp [State.readQueue, h, Nat.not_lt.mpr hk]

theorem State.readQueue_ok {s : State} {course : Course} {k : Nat} (h : s.tracker.course = some course)
    (hk : k < course.steps.length) : s.readQueue k = (s, .ok (queuePayload s k)) := by
  simp [State.readQueue, h, hk]

/-- READ QUEUE's payload, by the records of the runs in the queue, from head to tail. -/
theorem queuePayload_eq {s : State} {k : Nat} {rs : List Run} (h : (s.queue k).map s.run = rs.map some) :
    queuePayload s k = BitVec.ofNat 8 k :: BitVec.ofNat 8 rs.length :: rs.flatMap fun r => bytes16 r.number := by
  have hlength : (s.queue k).length = rs.length := by
    simpa only [List.length_map] using congrArg List.length h
  have hnumbers :
      ((s.queue k).flatMap fun i => bytes16 ((s.run i).elim 0 (·.number))) = rs.flatMap fun r => bytes16 r.number :=
    calc
      _ = ((s.queue k).map s.run).flatMap fun r => bytes16 (r.elim 0 (·.number)) := (List.flatMap_map ..).symm
      _ = rs.flatMap fun r => bytes16 r.number := by rw [h, List.flatMap_map]; rfl
  rw [queuePayload, hlength, hnumbers]
  rfl

/-- A READ QUEUE whose step is above 11 is refused. -/
theorem exec_readQueue_badValue {s : State} {tag b : Byte} (hc : s.session.state ≠ .closed)
    (hn : s.NextIs 0x36 tag [b]) (hb : 11 < b.toNat) :
    exec .readQueue s = .next (s.setLink (s.link.answer (.refuse .badValue))) :=
  congrArg Host.Outcome.next
    (State.live_serve_badValue (readQueue_ignoresLink.beside s) hn rfl hc (parseStep_none hb))

/-- The step of a READ QUEUE of a step up to 11 is its act, and the reply. -/
theorem exec_readQueue {s t : State} {tag b : Byte} {r : Response} (hc : s.session.state ≠ .closed)
    (hn : s.NextIs 0x36 tag [b]) (hb : b.toNat ≤ 11) (ha : s.readQueue b.toNat = (t, r)) :
    exec .readQueue s = .next (t.setLink (s.link.answer r)) :=
  congrArg Host.Outcome.next
    (State.live_serve_acts (readQueue_ignoresLink.beside s) hn rfl hc (parseStep_some hb) ha)

/-! ## READ UNASSIGNED (R106) -/

/-- The step of a READ UNASSIGNED is its act, and the reply. -/
theorem exec_readUnassigned {s : State} {tag : Byte} (hc : s.session.state ≠ .closed) (hn : s.NextIs 0x37 tag []) :
    exec .readUnassigned s = .next (s.setLink (s.link.answer (.ok (unassignedPayload s.tracker.unassigned)))) :=
  congrArg Host.Outcome.next (State.live_serve_acts (readUnassigned_ignoresLink.beside s) hn rfl hc rfl rfl)

/-- Settles O27: of each request the refusal in a CLOSED session, and in any other the act, which READ QUEUE makes by
its step and the course. The statement's bytes of an unassigned entry are the model's with their codes unfolded. -/
theorem readQueueAndUnassigned : Obligations.ReadQueueAndUnassigned := by
  refine ⟨fun s tag b hn => ⟨fun hc => ?_, fun hc => ⟨exec_readQueue_badValue hc hn, fun hb => ⟨fun hnone => ?_,
    fun course hsome => ⟨fun hk => ?_, fun rs hk hrs => ?_⟩⟩⟩⟩, fun s tag hn => ⟨fun hc => ?_, fun hc => ?_⟩⟩
  · exact congrArg Host.Outcome.next (State.live_serve_notOpen (readQueue_ignoresLink.beside s) hn rfl rfl hc)
  · exact exec_readQueue hc hn hb (State.readQueue_noCourse hnone)
  · exact exec_readQueue hc hn hb (State.readQueue_badValue hsome hk)
  · rw [exec_readQueue hc hn hb (State.readQueue_ok hsome hk), queuePayload_eq hrs, BitVec.ofNat_toNat,
      BitVec.setWidth_eq]
    rfl
  · exact congrArg Host.Outcome.next (State.live_serve_notOpen (readUnassigned_ignoresLink.beside s) hn rfl rfl hc)
  · exact exec_readUnassigned hc hn

end Sys2Proof.Machine
end

section
/-! PROOFS. The law of the assignment hold (R90): while assignment is HELD, the session is OPEN. Nearly every operation
leaves both the assignment state and the session state as they are (`HoldUnchanged`). Those that do not are an arrival
and OPEN SESSION, which can only open the session, HOLD ASSIGNMENT, which holds in an OPEN session only, RELEASE
ASSIGNMENT and the resets, which end a hold, and every departure from OPEN, which releases it (R89). -/

namespace Sys2Proof.Machine

/-! ## What keeps a property of the state -/

theorem State.live_keeps {P : State → Prop} {f : State → State} {s : State} (hf : P s → P (f s)) (h : P s) :
    P (s.live f) := by
  unfold State.live
  split
  · exact h
  · exact hf h

/-- A property that no change of the Link Controller and no owner's act breaks is kept by the request's step. -/
theorem State.serve_keeps {α : Type} {P : State → Prop} {mine : RequestEntry → Bool} {parse : List Byte → Option α}
    {act : State → α → State × Response} (hlink : ∀ s l, P s → P (State.setLink s l))
    (hact : ∀ s a, P s → P (act s a).1) {s : State} (h : P s) : P (s.serve mine parse act) := by
  unfold State.serve
  split
  · split
    · split
      · exact hlink _ _ h
      · exact hact _ _ (hlink _ _ h)
    · exact h
  · split
    · exact h
    · split
      · split
        · exact hlink _ _ (hlink _ _ h)
        · split
          · exact hlink _ _ (hlink _ _ h)
          · exact hlink _ _ (hact _ _ (hlink _ _ h))
      · exact h

/-- A property that neither a change of the Link Controller nor an accepted frame breaks is kept by the examination of
any characters (R124, R125). -/
theorem State.receive_keeps {P : State → Prop} (hlink : ∀ s l, P s → P (State.setLink s l))
    (hframe : ∀ s body, P s → P (State.acceptFrame s body)) (fuel : Nat) (cs : List Byte) {s : State} (h : P s) :
    P (s.receive fuel cs) := by
  fun_induction State.receive s fuel cs with
  | case1 | case2 | case4 | case6 => exact hlink _ _ h
  | case3 _ _ _ _ _ ih => exact ih h
  | case5 _ _ _ _ _ _ _ ih => exact ih (hlink _ _ h)
  | case7 _ _ _ _ _ _ _ _ _ _ ih => exact ih (hframe _ _ h)
  | case8 _ _ _ _ _ _ _ _ _ _ ih => exact ih (hlink _ _ h)

/-! ## Operations that leave the assignment state and the session state -/

/-- The assignment state and the session state of `t` are those of `s`. -/
structure HoldUnchanged (s t : State) : Prop where
  assignment : t.tracker.assignment = s.tracker.assignment
  session : t.session.state = s.session.state

theorem HoldUnchanged.refl (s : State) : HoldUnchanged s s := ⟨rfl, rfl⟩

theorem HoldUnchanged.trans {s t u : State} (h : HoldUnchanged s t) (k : HoldUnchanged t u) : HoldUnchanged s u :=
  ⟨k.assignment.trans h.assignment, k.session.trans h.session⟩

theorem HoldUnchanged.foldl {β : Type} {f : State → β → State} (hf : ∀ s b, HoldUnchanged s (f s b)) (bs : List β)
    (s : State) : HoldUnchanged s (bs.foldl f s) := by
  induction bs generalizing s with
  | nil => exact .refl s
  | cons b bs ih => exact (hf s b).trans (ih _)

theorem HoldUnchanged.holdLaw {s t : State} (h : HoldUnchanged s t) (hs : s.HoldLaw) : t.HoldLaw :=
  fun ha => h.session.trans (hs (h.assignment ▸ ha))

/-- Storing a report leaves the session state (R146, R147). -/
theorem Session.state_store (ss : Session) (t : Tick) (b : ReportBody) : (ss.store t b).state = ss.state := by
  unfold Session.store
  split <;> rfl

theorem Session.state_storeAll (ss : Session) (t : Tick) (bs : List ReportBody) :
    (ss.storeAll t bs).state = ss.state := by
  induction bs generalizing ss with
  | nil => rfl
  | cons b bs ih => rw [Session.storeAll_cons, ih, Session.state_store]

theorem TrackerChange.hold {s t : State} (h : TrackerChange s t) : HoldUnchanged s t := by
  obtain ⟨bs, hbs⟩ := h.session
  exact ⟨h.assignment, by rw [hbs, Session.state_storeAll]⟩

theorem State.report_hold (s : State) (b : ReportBody) : HoldUnchanged s (s.report b) := (s.report_change b).hold

theorem State.setGate_hold (s : State) (g : Gate) (u : GateUnit) : HoldUnchanged s (s.setGate g u) := ⟨rfl, rfl⟩

theorem State.changeClock_hold (s : State) (c : ClockState) (n : Tick) (why : ClockReason) :
    HoldUnchanged s (s.changeClock c n why) := ⟨rfl, Session.state_store _ _ _⟩

theorem State.staleNotice_hold (s : State) : HoldUnchanged s s.staleNotice := ⟨rfl, rfl⟩

theorem State.appendCrossing_hold (s : State) (g : Gate) (t : Tick) (src : CrossingSource) :
    HoldUnchanged s (s.appendCrossing g t src) := by
  unfold State.appendCrossing
  split
  · exact ⟨rfl, Session.state_store _ _ _⟩
  · exact ⟨rfl, rfl⟩

theorem State.offerCrossing_hold (s : State) (g : Gate) (t : Tick) : HoldUnchanged s (s.offerCrossing g t) := by
  unfold State.offerCrossing
  split
  · exact (s.setGate_hold _ _).trans (State.appendCrossing_hold _ _ _ _)
  · exact (s.setGate_hold _ _).trans (State.report_hold _ _)

/-! ## The steps of the clock and the gates -/

theorem State.clockLimit_hold (s : State) : HoldUnchanged s s.clockLimit := by
  unfold State.clockLimit
  split
  · exact s.changeClock_hold _ _ _
  · exact .refl s

theorem State.haltEnd_hold (s : State) : HoldUnchanged s s.haltEnd := by
  unfold State.haltEnd
  split
  · split
    · exact s.changeClock_hold _ _ _
    · exact .refl s
  all_goals exact .refl s

theorem State.enterGateIdle_hold (s : State) (g : Gate) : HoldUnchanged s (s.enterGateIdle g) := by
  unfold State.enterGateIdle
  split
  · exact (s.setGate_hold _ _).trans (State.report_hold _ _)
  · exact s.setGate_hold _ _

theorem State.settleAcceptance_hold (s : State) (g : Gate) (t : Tick) (stale : Bool) :
    HoldUnchanged s (s.settleAcceptance g t stale) := by
  unfold State.settleAcceptance
  split
  · exact s.setGate_hold _ _
  · split
    · exact s.offerCrossing_hold _ _
    · exact s.offerCrossing_hold _ _
    · split
      · exact ((s.changeClock_hold _ _ _).trans (State.clockStartEvent_change _ _).hold).trans
          (State.offerCrossing_hold _ _ _)
      · exact s.setGate_hold _ _
    all_goals exact s.setGate_hold _ _

theorem State.leadingEdge_hold (s : State) (g : Gate) : HoldUnchanged s (s.leadingEdge g) := by
  unfold State.leadingEdge
  split
  · split
    · exact s.setGate_hold _ _
    · exact .refl s
  all_goals exact .refl s

theorem State.shortPulse_hold (s : State) (g : Gate) : HoldUnchanged s (s.shortPulse g) := by
  unfold State.shortPulse
  split
  · split
    · exact (s.setGate_hold _ _).trans (State.setGate_hold _ _ _)
    · exact .refl s
  all_goals exact .refl s

theorem State.acceptance_hold (s : State) (g : Gate) : HoldUnchanged s (s.acceptance g) := by
  unfold State.acceptance
  split
  · split
    · exact (s.setGate_hold _ _).trans (State.settleAcceptance_hold _ _ _ _)
    · exact .refl s
  all_goals exact .refl s

theorem State.edgeInHoldoff_hold (s : State) (g : Gate) : HoldUnchanged s (s.edgeInHoldoff g) := by
  unfold State.edgeInHoldoff
  split
  · split
    · exact s.setGate_hold _ _
    · exact .refl s
  all_goals exact .refl s

theorem State.holdoffEnd_hold (s : State) (g : Gate) : HoldUnchanged s (s.holdoffEnd g) := by
  unfold State.holdoffEnd
  split
  · split
    · split
      · exact s.setGate_hold _ _
      · exact s.enterGateIdle_hold g
    · exact .refl s
  all_goals exact .refl s

theorem State.blockedInputInactive_hold (s : State) (g : Gate) : HoldUnchanged s (s.blockedInputInactive g) := by
  unfold State.blockedInputInactive
  split
  · split
    · exact .refl s
    · exact s.enterGateIdle_hold g
  all_goals exact .refl s

theorem State.gateAlarmBlocked_hold (s : State) (g : Gate) : HoldUnchanged s (s.gateAlarmBlocked g) := by
  unfold State.gateAlarmBlocked
  split
  · split
    · exact (s.setGate_hold _ _).trans (State.report_hold _ _)
    · exact .refl s
  · exact .refl s

theorem State.gateEnableSample_hold (s : State) (g : Gate) : HoldUnchanged s (s.gateEnableSample g) := by
  unfold State.gateEnableSample
  split
  · split
    · split
      · exact s.setGate_hold _ _
      · exact s.enterGateIdle_hold g
    · exact .refl s
  all_goals exact .refl s

theorem State.settleGate_hold (s : State) (g : Gate) : HoldUnchanged s (s.settleGate g) :=
  (s.gateEnableSample_hold g).trans <| (State.blockedInputInactive_hold _ g).trans <|
    (State.edgeInHoldoff_hold _ g).trans <| (State.holdoffEnd_hold _ g).trans <| (State.shortPulse_hold _ g).trans <|
    (State.acceptance_hold _ g).trans <| (State.leadingEdge_hold _ g).trans (State.gateAlarmBlocked_hold _ g)

/-- A take comes in TAKING only, and assigns its crossing without a change of the assignment state (R42). -/
theorem State.take_hold (s : State) : HoldUnchanged s s.take := by
  unfold State.take
  split
  · next c rest _ _ =>
    have hleft : HoldUnchanged s { s with crossings := { s.crossings with records := rest } } := ⟨rfl, rfl⟩
    exact (hleft.trans (State.place_change _ c).hold).trans (State.examineDeadlines_change _).hold
  all_goals exact .refl s

/-! ## The receiver and the transmitter -/

theorem State.setLink_hold (s : State) (l : LinkController) : HoldUnchanged s (s.setLink l) := ⟨rfl, rfl⟩

theorem State.dropPartial_hold (s : State) : HoldUnchanged s s.dropPartial := by
  unfold State.dropPartial
  split <;> exact ⟨rfl, rfl⟩

theorem State.syncByteFound_hold (s : State) : HoldUnchanged s s.syncByteFound := by
  have hfound : HoldUnchanged s (s.dropPartial.characterSeen.setReceiver .length) :=
    s.dropPartial_hold.trans ⟨rfl, rfl⟩
  unfold State.syncByteFound
  split
  case h_1 | h_2 =>
    split
    · exact .refl s
    · exact hfound
  all_goals exact .refl s

theorem State.lengthAccepted_hold (s : State) (len : Byte) : HoldUnchanged s (s.lengthAccepted len) := by
  unfold State.lengthAccepted
  split
  · split <;> exact ⟨rfl, rfl⟩
  all_goals exact .refl s

theorem State.bodyCharacter_hold (s : State) (c : Byte) : HoldUnchanged s (s.bodyCharacter c) := by
  unfold State.bodyCharacter
  split
  · split <;> exact ⟨rfl, rfl⟩
  all_goals exact .refl s

theorem State.interCharacterGap_hold (s : State) : HoldUnchanged s s.interCharacterGap := by
  unfold State.interCharacterGap
  split
  · exact s.dropPartial_hold
  · exact .refl s

theorem State.framingError_hold (s : State) : HoldUnchanged s s.framingError := by
  unfold State.framingError
  split
  · exact .refl s
  · exact s.dropPartial_hold

theorem State.breakEnd_hold (s : State) : HoldUnchanged s s.breakEnd := by
  unfold State.breakEnd
  split <;> exact ⟨rfl, rfl⟩

theorem State.settleGap_hold (s : State) : HoldUnchanged s s.settleGap := by
  obtain ⟨r, dropped, -, h⟩ := s.settleGap_eq
  rw [h]
  exact ⟨rfl, rfl⟩

theorem State.startReport_hold (s : State) : HoldUnchanged s s.startReport := by
  unfold State.startReport
  split <;> exact ⟨rfl, rfl⟩

theorem State.startNext_hold (s : State) : HoldUnchanged s s.startNext := by
  unfold State.startNext
  split
  · exact ⟨rfl, rfl⟩
  · split
    · exact ⟨rfl, rfl⟩
    · exact s.startReport_hold

theorem State.frameStart_hold (s : State) : HoldUnchanged s s.frameStart := by
  have hmeet : HoldUnchanged s s.meet := ⟨rfl, rfl⟩
  unfold State.frameStart
  split
  · split
    · split
      · exact hmeet.trans (State.startReport_hold _)
      · exact hmeet.trans (State.startNext_hold _)
    · exact s.startNext_hold
  all_goals exact .refl s

theorem State.shortReplySent_hold (s : State) : HoldUnchanged s s.shortReplySent := by
  unfold State.shortReplySent
  split <;> exact ⟨rfl, rfl⟩

theorem State.reportSent_hold (s : State) : HoldUnchanged s s.reportSent := by
  unfold State.reportSent
  split
  · exact ⟨rfl, by simp only [State.setSession_session, Session.markInFlight]; split <;> rfl⟩
  all_goals exact .refl s

/-! ## The owners' acts -/

theorem State.enableGate_hold (s : State) (a : Gate × GateConfig) : HoldUnchanged s (s.enableGate a).1 := by
  unfold State.enableGate
  split
  · exact s.setGate_hold _ _
  all_goals split <;> exact .refl s

theorem State.readGate_hold (s : State) (a : Gate × Bool) : HoldUnchanged s (s.readGate a).1 := by
  unfold State.readGate
  split <;> exact ⟨rfl, rfl⟩

theorem State.armClock_hold (s : State) (g : Gate) : HoldUnchanged s (s.armClock g).1 := by
  unfold State.armClock
  split
  · split
    · exact s.changeClock_hold _ _ _
    · exact .refl s
  all_goals exact .refl s

theorem State.disarmClock_hold (s : State) (u : Unit) : HoldUnchanged s (s.disarmClock u).1 := by
  unfold State.disarmClock
  split
  · exact s.staleNotice_hold.trans (State.changeClock_hold _ _ _ _)
  all_goals exact .refl s

theorem State.startClock_hold (s : State) (preset : Tick) : HoldUnchanged s (s.startClock preset).1 := by
  unfold State.startClock
  split
  · exact (s.changeClock_hold _ _ _).trans (State.clockStartEvent_change _ _).hold
  all_goals exact .refl s

theorem State.haltClock_hold (s : State) (u : Unit) : HoldUnchanged s (s.haltClock u).1 := by
  unfold State.haltClock
  split
  · exact s.changeClock_hold _ _ _
  all_goals exact .refl s

theorem State.resumeClock_hold (s : State) (u : Unit) : HoldUnchanged s (s.resumeClock u).1 := by
  unfold State.resumeClock
  split
  · split
    · exact .refl s
    · exact s.changeClock_hold _ _ _
  · exact s.changeClock_hold _ _ _
  all_goals exact .refl s

theorem State.clear_hold (s : State) : HoldUnchanged s s.clear.1 := by
  unfold State.clear
  split
  · exact ((s.setUnassigned_change []).hold.trans (State.staleNotice_hold _)).trans (State.changeClock_hold _ _ _ _)
  all_goals exact ⟨rfl, rfl⟩

theorem State.clearClock_hold (s : State) (u : Unit) : HoldUnchanged s (s.clearClock u).1 := by
  unfold State.clearClock
  split
  case h_1 | h_2 | h_3 => exact .refl s
  all_goals
    split
    · exact .refl s
    · split
      · exact .refl s
      · exact s.clear_hold

theorem State.setCourse_hold (s : State) (c : Course) : HoldUnchanged s (s.setCourse c).1 := by
  unfold State.setCourse
  split
  · exact .refl s
  · split <;> exact ⟨rfl, rfl⟩

theorem State.getCourse_hold (s : State) (u : Unit) : HoldUnchanged s (s.getCourse u).1 := by
  unfold State.getCourse
  split <;> exact .refl s

theorem State.stageRun_hold (s : State) (n : Word) : HoldUnchanged s (s.stageRun n).1 := by
  unfold State.stageRun
  split
  · exact .refl s
  · split
    · exact .refl s
    · split <;> exact ⟨rfl, rfl⟩

theorem State.withdrawRun_hold (s : State) (n : Word) : HoldUnchanged s (s.withdrawRun n).1 := by
  unfold State.withdrawRun
  split
  · exact .refl s
  · split
    · exact ⟨rfl, Session.state_store _ _ _⟩
    · exact .refl s

theorem State.releaseRun_hold (s : State) (n : Word) : HoldUnchanged s (s.releaseRun n).1 := by
  unfold State.releaseRun
  split
  · exact .refl s
  · split <;> exact ⟨rfl, rfl⟩

theorem State.startGroup_hold (s : State) (t : Option Tick) : HoldUnchanged s (s.startGroup t).1 := by
  unfold State.startGroup
  repeat' split
  case isFalse => exact (s.groupStart_change _).hold
  all_goals exact .refl s

theorem State.readRun_hold (s : State) (n : Word) : HoldUnchanged s (s.readRun n).1 := by
  unfold State.readRun
  split <;> exact .refl s

theorem State.swapRuns_hold (s : State) (a : Nat × Word × Word) : HoldUnchanged s (s.swapRuns a).1 := by
  unfold State.swapRuns
  repeat' split
  all_goals exact ⟨rfl, rfl⟩

theorem State.assignCrossing_hold (s : State) (a : Tick × Word) : HoldUnchanged s (s.assignCrossing a).1 := by
  unfold State.assignCrossing
  split
  · exact .refl s
  · next e _ =>
    split
    · exact .refl s
    · next i r _ =>
      split
      · exact .refl s
      · have h := ((s.setUnassigned_change _).trans (State.advance_change (s.removeEntry a.1) i e.crossing true)).trans
          (State.markCorrected_change _ i)
        dsimp only
        split
        · exact (h.trans (State.examineDeadlines_change _)).hold
        · exact h.hold

theorem State.voidSplit_hold (s : State) (n : Word) : HoldUnchanged s (s.voidSplit n).1 := by
  unfold State.voidSplit
  split
  · exact .refl s
  · split
    · exact .refl s
    · exact .refl s
    · exact (s.voidLast_change _ _ _ _).hold

theorem State.discardCrossing_hold (s : State) (id : Tick) : HoldUnchanged s (s.discardCrossing id).1 := by
  unfold State.discardCrossing
  split <;> exact ⟨rfl, rfl⟩

theorem State.readQueue_hold (s : State) (k : Nat) : HoldUnchanged s (s.readQueue k).1 := by
  unfold State.readQueue
  split
  · exact .refl s
  · split <;> exact .refl s

theorem State.manualCrossing_hold (s : State) (a : Gate × Tick) : HoldUnchanged s (s.manualCrossing a).1 := by
  unfold State.manualCrossing
  split
  case h_1 | h_2 => exact .refl s
  all_goals
    split
    · exact .refl s
    · split
      · exact .refl s
      · exact s.appendCrossing_hold _ _ _

/-! ## Arrivals: a session that is OPEN stays OPEN -/

theorem Session.state_applyAck (ss : Session) (now : Instant) (ack : Word) :
    (ss.applyAck now ack).state = ss.state := by
  unfold Session.applyAck
  split <;> rfl

/-- An arrival leaves no OPEN session (R131, R144). -/
theorem Session.arrival_opened {ss : Session} (h : ss.state = .opened) (now : Instant) (ack : Word) :
    (ss.arrival now ack).state = .opened := by
  simp only [Session.arrival, h, Session.state_applyAck]

theorem State.acceptFrame_holdLaw {s : State} (h : s.HoldLaw) (body : List Byte) : (s.acceptFrame body).HoldLaw := by
  unfold State.acceptFrame
  split
  · split
    · exact fun ha => Session.arrival_opened (h ha) _ _
    · exact h
  · exact h

theorem State.receive_holdLaw {s : State} (h : s.HoldLaw) (fuel : Nat) (cs : List Byte) : (s.receive fuel cs).HoldLaw :=
  State.receive_keeps (fun s l h => (s.setLink_hold l).holdLaw h) (fun _ body h => State.acceptFrame_holdLaw h body)
    fuel cs h

theorem State.lengthOutOfRange_holdLaw {s : State} (h : s.HoldLaw) (len : Byte) : (s.lengthOutOfRange len).HoldLaw := by
  unfold State.lengthOutOfRange
  split
  · split
    · exact State.receive_holdLaw (s := s.characterSeen.countBadFrame) h _ _
    · exact h
  all_goals exact h

theorem State.frameComplete_holdLaw {s : State} (h : s.HoldLaw) (c : Byte) : (s.frameComplete c).HoldLaw := by
  unfold State.frameComplete
  split
  · split
    · exact State.receive_holdLaw (s := s.characterSeen) h _ _
    · exact h
  all_goals exact h

/-! ## Departures and resets: a hold ends -/

theorem State.holdLaw_of_taking {s : State} (h : s.tracker.assignment = .taking) : s.HoldLaw :=
  fun hheld => nomatch h.symm.trans hheld

/-- A departure releases the hold, if there is one (R89). -/
theorem State.departure_taking (s : State) (why : ReleaseCause) : (s.departure why).tracker.assignment = .taking := by
  unfold State.departure
  split
  · rfl
  · assumption

/-- Where the hold law stands, a session that goes CLOSED or SILENT leaves assignment TAKING: a departure from OPEN
releases the hold (R89), and in any other session state there is none (R90). -/
theorem State.leaveSession_taking {s : State} (h : s.HoldLaw) (next : SessionState) (why : ReleaseCause) :
    (s.leaveSession next why).tracker.assignment = .taking := by
  unfold State.leaveSession
  by_cases hopen : s.session.state = .opened
  · rw [if_pos hopen]
    exact State.departure_taking _ why
  · rw [if_neg hopen]
    cases ha : s.tracker.assignment with
    | taking => exact ha
    | held => exact absurd (h ha) hopen

theorem State.leaveSession_holdLaw {s : State} (h : s.HoldLaw) (next : SessionState) (why : ReleaseCause) :
    (s.leaveSession next why).HoldLaw :=
  State.holdLaw_of_taking (State.leaveSession_taking h next why)

theorem State.partReset_holdLaw (s : State) : s.partReset.HoldLaw := State.holdLaw_of_taking rfl

theorem State.linkReset_holdLaw {s : State} (h : s.HoldLaw) (hand : Option RequestEntry) :
    (s.linkReset hand).HoldLaw := by
  apply State.leaveSession_holdLaw
  exact h

theorem State.breakWith_holdLaw {s : State} (h : s.HoldLaw) (hand : Option RequestEntry) (decided : Bool) :
    (s.breakWith hand decided).HoldLaw := by
  unfold State.breakWith
  split
  · exact State.partReset_holdLaw _
  · apply State.linkReset_holdLaw
    exact h

theorem State.lineBreak_holdLaw {s : State} (h : s.HoldLaw) : s.lineBreak.HoldLaw := by
  have hmeet : s.meet.HoldLaw := h
  unfold State.lineBreak
  split
  · exact h
  · split
    · exact State.breakWith_holdLaw h _ _
    · split
      · exact State.breakWith_holdLaw hmeet _ _
      · exact State.breakWith_holdLaw hmeet _ _

theorem State.bufferReplySent_holdLaw {s : State} (h : s.HoldLaw) : s.bufferReplySent.HoldLaw := by
  unfold State.bufferReplySent
  split
  · split
    · split
      · exact s.partReset_holdLaw
      · exact h
    · exact h
  all_goals exact h

theorem State.retryTimerExpiry_holdLaw {s : State} (h : s.HoldLaw) : s.retryTimerExpiry.HoldLaw := by
  unfold State.retryTimerExpiry
  split
  · dsimp only
    split
    · exact h
    · apply State.leaveSession_holdLaw
      exact h
  · exact h

theorem State.keepaliveExpiry_holdLaw {s : State} (h : s.HoldLaw) : s.keepaliveExpiry.HoldLaw := by
  unfold State.keepaliveExpiry
  split
  · exact State.leaveSession_holdLaw h _ _
  · exact h

theorem State.settle_holdLaw {s : State} (h : s.HoldLaw) : s.settle.HoldLaw := by
  have hdeadlines : HoldUnchanged s (Config.allGates.foldl State.settleGate s.clockLimit.haltEnd).examineDeadlines :=
    ((s.clockLimit_hold.trans (State.haltEnd_hold _)).trans
      (.foldl State.settleGate_hold _ _)).trans (State.examineDeadlines_change _).hold
  have htimers := State.keepaliveExpiry_holdLaw (State.retryTimerExpiry_holdLaw (hdeadlines.holdLaw h))
  unfold State.settle
  exact (State.settleGap_hold _).holdLaw htimers

theorem State.tick_hold (s : State) (levels : Byte) : HoldUnchanged s (s.tick levels) := ⟨rfl, rfl⟩

/-! ## Requests -/

section Requests

variable {α : Type} {mine : RequestEntry → Bool} {parse : List Byte → Option α} {act : State → α → State × Response}
  {s : State}

theorem State.live_serve_holdLaw (hact : ∀ s a, State.HoldLaw s → (act s a).1.HoldLaw) (h : s.HoldLaw) :
    (s.live (·.serve mine parse act)).HoldLaw :=
  State.live_keeps (State.serve_keeps (fun s l h => (s.setLink_hold l).holdLaw h) hact) h

theorem State.live_serve_hold (hact : ∀ s a, HoldUnchanged s (act s a).1) (h : s.HoldLaw) :
    (s.live (·.serve mine parse act)).HoldLaw :=
  State.live_serve_holdLaw (fun s a => (hact s a).holdLaw) h

end Requests

/-- HOLD ASSIGNMENT holds in an OPEN session only (R87). -/
theorem State.holdAssignment_holdLaw {s : State} (h : s.HoldLaw) (u : Unit) : (s.holdAssignment u).1.HoldLaw := by
  unfold State.holdAssignment
  split
  · next hopen => exact fun _ => hopen
  · exact h

/-! ## Every command -/

/-- Every command is answered with a next state, and keeps the hold law. -/
theorem exec_keeps_holdLaw (c : Instr) {s : State} (h : s.HoldLaw) : ∃ t, exec c s = .next t ∧ t.HoldLaw := by
  cases c with
  | rstnLow => exact ⟨_, rfl, State.holdLaw_of_taking rfl⟩
  | externalReset => exact ⟨_, rfl, State.holdLaw_of_taking rfl⟩
  | leadingEdge g => exact ⟨_, rfl, State.live_keeps (s.leadingEdge_hold g).holdLaw h⟩
  | shortPulse g => exact ⟨_, rfl, State.live_keeps (s.shortPulse_hold g).holdLaw h⟩
  | acceptance g => exact ⟨_, rfl, State.live_keeps (s.acceptance_hold g).holdLaw h⟩
  | edgeInHoldoff g => exact ⟨_, rfl, State.live_keeps (s.edgeInHoldoff_hold g).holdLaw h⟩
  | holdoffEnd g => exact ⟨_, rfl, State.live_keeps (s.holdoffEnd_hold g).holdLaw h⟩
  | blockedInputInactive g => exact ⟨_, rfl, State.live_keeps (s.blockedInputInactive_hold g).holdLaw h⟩
  | gateAlarmBlocked g => exact ⟨_, rfl, State.live_keeps (s.gateAlarmBlocked_hold g).holdLaw h⟩
  | gateEnableSample g => exact ⟨_, rfl, State.live_keeps (s.gateEnableSample_hold g).holdLaw h⟩
  | haltEnd => exact ⟨_, rfl, State.live_keeps s.haltEnd_hold.holdLaw h⟩
  | clockLimit => exact ⟨_, rfl, State.live_keeps s.clockLimit_hold.holdLaw h⟩
  | take => exact ⟨_, rfl, State.live_keeps s.take_hold.holdLaw h⟩
  | deadlineExpiry => exact ⟨_, rfl, State.live_keeps s.examineDeadlines_change.hold.holdLaw h⟩
  | interCharacterGap => exact ⟨_, rfl, State.live_keeps s.interCharacterGap_hold.holdLaw h⟩
  | framingError => exact ⟨_, rfl, State.live_keeps s.framingError_hold.holdLaw h⟩
  | breakEnd => exact ⟨_, rfl, State.live_keeps s.breakEnd_hold.holdLaw h⟩
  | frameStart => exact ⟨_, rfl, State.live_keeps s.frameStart_hold.holdLaw h⟩
  | shortReplySent => exact ⟨_, rfl, State.live_keeps s.shortReplySent_hold.holdLaw h⟩
  | reportSent => exact ⟨_, rfl, State.live_keeps s.reportSent_hold.holdLaw h⟩
  | syncByteFound => exact ⟨_, rfl, State.live_keeps s.syncByteFound_hold.holdLaw h⟩
  | lengthAccepted len => exact ⟨_, rfl, State.live_keeps (s.lengthAccepted_hold len).holdLaw h⟩
  | bodyCharacter c => exact ⟨_, rfl, State.live_keeps (s.bodyCharacter_hold c).holdLaw h⟩
  | lengthOutOfRange len => exact ⟨_, rfl, State.live_keeps (State.lengthOutOfRange_holdLaw · len) h⟩
  | frameComplete c => exact ⟨_, rfl, State.live_keeps (State.frameComplete_holdLaw · c) h⟩
  | lineBreak => exact ⟨_, rfl, State.live_keeps State.lineBreak_holdLaw h⟩
  | bufferReplySent => exact ⟨_, rfl, State.live_keeps State.bufferReplySent_holdLaw h⟩
  | retryTimerExpiry => exact ⟨_, rfl, State.live_keeps State.retryTimerExpiry_holdLaw h⟩
  | keepaliveExpiry => exact ⟨_, rfl, State.live_keeps State.keepaliveExpiry_holdLaw h⟩
  | tickInstant levels =>
    exact ⟨_, rfl, State.live_keeps (fun h => (State.tick_hold _ levels).holdLaw (State.settle_holdLaw h)) h⟩
  | openSession => exact ⟨_, rfl, State.live_serve_holdLaw (fun _ _ _ _ => rfl) h⟩
  | closeSession => exact ⟨_, rfl, State.live_serve_holdLaw (fun _ _ h => State.leaveSession_holdLaw h _ _) h⟩
  | holdAssignment => exact ⟨_, rfl, State.live_serve_holdLaw (fun _ a h => State.holdAssignment_holdLaw h a) h⟩
  | releaseAssignment => exact ⟨_, rfl, State.live_serve_holdLaw (fun _ _ _ => State.holdLaw_of_taking rfl) h⟩
  | unknownRequest | ping | status | resetPart | readClock | listRuns | readUnassigned =>
    exact ⟨_, rfl, State.live_serve_hold (fun s _ => .refl s) h⟩
  | setGateDisable => exact ⟨_, rfl, State.live_serve_hold (fun s _ => s.setGate_hold _ _) h⟩
  | setGateEnable => exact ⟨_, rfl, State.live_serve_hold State.enableGate_hold h⟩
  | getGate => exact ⟨_, rfl, State.live_serve_hold State.readGate_hold h⟩
  | armClock => exact ⟨_, rfl, State.live_serve_hold State.armClock_hold h⟩
  | disarmClock => exact ⟨_, rfl, State.live_serve_hold State.disarmClock_hold h⟩
  | startClock => exact ⟨_, rfl, State.live_serve_hold State.startClock_hold h⟩
  | haltClock => exact ⟨_, rfl, State.live_serve_hold State.haltClock_hold h⟩
  | resumeClock => exact ⟨_, rfl, State.live_serve_hold State.resumeClock_hold h⟩
  | clearClock => exact ⟨_, rfl, State.live_serve_hold State.clearClock_hold h⟩
  | setCourse => exact ⟨_, rfl, State.live_serve_hold State.setCourse_hold h⟩
  | getCourse => exact ⟨_, rfl, State.live_serve_hold State.getCourse_hold h⟩
  | stageRun => exact ⟨_, rfl, State.live_serve_hold State.stageRun_hold h⟩
  | withdrawRun => exact ⟨_, rfl, State.live_serve_hold State.withdrawRun_hold h⟩
  | startGroup => exact ⟨_, rfl, State.live_serve_hold State.startGroup_hold h⟩
  | readRun => exact ⟨_, rfl, State.live_serve_hold State.readRun_hold h⟩
  | releaseRun => exact ⟨_, rfl, State.live_serve_hold State.releaseRun_hold h⟩
  | swapRuns => exact ⟨_, rfl, State.live_serve_hold State.swapRuns_hold h⟩
  | assignCrossing => exact ⟨_, rfl, State.live_serve_hold State.assignCrossing_hold h⟩
  | voidSplit => exact ⟨_, rfl, State.live_serve_hold State.voidSplit_hold h⟩
  | discardCrossing => exact ⟨_, rfl, State.live_serve_hold State.discardCrossing_hold h⟩
  | readQueue => exact ⟨_, rfl, State.live_serve_hold State.readQueue_hold h⟩
  | manualCrossing => exact ⟨_, rfl, State.live_serve_hold State.manualCrossing_hold h⟩

/-- Settles O54: the command in front keeps the law, and an empty queue leaves the state as it is. -/
theorem holdLawKept : Obligations.HoldLawKept := by
  intro s t h hstep
  unfold step at hstep
  split at hstep
  · cases hstep
    exact h
  · next c rest _ =>
    obtain ⟨u, hu, hlaw⟩ := exec_keeps_holdLaw c (s := { s with pending := rest }) h
    cases hu.symm.trans hstep
    exact hlaw

end Sys2Proof.Machine
end

section
/-! PROOFS. SWAP RUNS and DISCARD CROSSING (R109, R110, R121): what a look-up in the Run Table and in the Unassigned
List finds, what each request's act does, and from them the step that takes the request. -/

namespace Sys2Proof.Machine

/-! ## The run that a request names (R59, R61) -/

theorem mem_allSlots (i : Slot) : i ∈ Config.allSlots := List.mem_finRange i

theorem State.findRun_some {s : State} {n : Word} {i : Slot} {r : Run} (h : s.findRun n = some (i, r)) :
    s.run i = some r ∧ r.number = n := by
  obtain ⟨j, -, hj⟩ := List.exists_of_findSome?_eq_some h
  cases hr : s.run j with
  | none => simp [hr] at hj
  | some r' =>
    simp only [hr, Option.ite_none_right_eq_some, Option.some.injEq, Prod.mk.injEq] at hj
    obtain ⟨hn, rfl, rfl⟩ := hj
    exact ⟨hr, hn⟩

theorem State.findRun_ne_none {s : State} {n : Word} {i : Slot} {r : Run} (hr : s.run i = some r)
    (hn : r.number = n) : s.findRun n ≠ none := by
  intro h
  have hi := List.findSome?_eq_none_iff.mp h i (mem_allSlots i)
  simp [hr, hn] at hi

/-- Run numbers being distinct, the look-up finds the one slot that holds the number (R61). -/
theorem State.findRun_eq {s : State} {n : Word} {i : Slot} {r : Run} (hd : s.NumbersDistinct)
    (hr : s.run i = some r) (hn : r.number = n) : s.findRun n = some (i, r) := by
  obtain ⟨⟨j, r'⟩, h⟩ := Option.ne_none_iff_exists'.mp (State.findRun_ne_none hr hn)
  obtain ⟨hr', hn'⟩ := State.findRun_some h
  obtain rfl : i = j := hd i j r hr r' hr' (hn.trans hn'.symm)
  rw [h, Option.some.inj (hr'.symm.trans hr)]

/-! ## SWAP RUNS (R109, R110) -/

theorem parseSwapRuns_outOfRange {k a1 a0 b1 b0 : Byte}
    (h : 11 < k.toNat ∨ word16 a1 a0 = 0 ∨ word16 b1 b0 = 0) : parseSwapRuns [k, a1, a0, b1, b0] = none := by
  obtain hk | ha | hb := h
  · simp [parseSwapRuns, parseStep_none hk]
  · simp [parseSwapRuns, parseRunNumber_zero ha]
  · simp [parseSwapRuns, parseRunNumber_zero hb]

theorem parseSwapRuns_inRange {k a1 a0 b1 b0 : Byte} (hk : k.toNat ≤ 11) (ha : word16 a1 a0 ≠ 0)
    (hb : word16 b1 b0 ≠ 0) :
    parseSwapRuns [k, a1, a0, b1, b0] = some (k.toNat, word16 a1 a0, word16 b1 b0) := by
  simp [parseSwapRuns, parseStep_some hk, parseRunNumber_some ha, parseRunNumber_some hb]

/-- A change of one queue sets it; of a step without a queue both change nothing. -/
theorem State.modify_queues (s : State) (k : Nat) (f : List Slot → List Slot) :
    s.tracker.queues.modify k f = s.tracker.queues.set k (f (s.queue k)) := by
  rcases Nat.lt_or_ge k s.tracker.queues.length with hk | hk
  · rw [List.modify_eq_set_get f hk, State.queue, List.getD_eq_getElem _ _ hk, List.get_eq_getElem]
  · rw [List.modify_eq_self hk, List.set_eq_of_length_le hk]

theorem State.markCorrected_eq {s : State} {i : Slot} {r : Run} (h : s.run i = some r) :
    s.markCorrected i = s.setRun i (some { r with corrected := true }) := by
  rw [State.markCorrected, h, Option.map_some]

/-- The marks on two different runs, with the records written out (R65). -/
theorem State.markCorrected_both {s : State} {i j : Slot} {r r' : Run} (hi : s.run i = some r)
    (hj : s.run j = some r') (hij : i ≠ j) :
    (s.markCorrected i).markCorrected j =
      (s.setRun i (some { r with corrected := true })).setRun j (some { r' with corrected := true }) := by
  rw [State.markCorrected_eq hi, State.markCorrected_eq ((s.run_setRun_ne _ hij).trans hj)]

section SwapRuns

variable {s : State} {course : Course} {k : Nat} {a b : Word}

theorem State.swapRuns_noCourse (h : s.tracker.course = none) : s.swapRuns (k, a, b) = (s, .refuse .noCourse) := by
  simp only [State.swapRuns, h]

theorem State.swapRuns_badValue (h : s.tracker.course = some course) (hbad : course.steps.length ≤ k ∨ a = b) :
    s.swapRuns (k, a, b) = (s, .refuse .badValue) := by
  simp only [State.swapRuns, h]
  obtain hk | hab := hbad
  · rw [if_pos hk]
  · rw [if_pos hab, ite_self]

/-- A number that no run in the step's queue carries is refused (R109, check 4). -/
theorem State.swapRuns_notFound (h : s.tracker.course = some course) (hk : k < course.steps.length) (hab : a ≠ b)
    (hmiss : (∀ i r, s.run i = some r → r.number = a → i ∉ s.queue k)
      ∨ (∀ j r, s.run j = some r → r.number = b → j ∉ s.queue k)) :
    s.swapRuns (k, a, b) = (s, .refuse .notFound) := by
  simp only [State.swapRuns, h, if_neg (Nat.not_le.mpr hk), if_neg hab]
  split
  · next i r j r' hi hj =>
    obtain ⟨hri, hna⟩ := State.findRun_some hi
    obtain ⟨hrj, hnb⟩ := State.findRun_some hj
    have hout : ¬ (i ∈ s.queue k ∧ j ∈ s.queue k) := fun ⟨hiq, hjq⟩ =>
      hmiss.elim (fun hm => hm i r hri hna hiq) (fun hm => hm j r' hrj hnb hjq)
    rw [if_neg hout]
  · rfl
  · rfl

/-- Two numbers that differ are those of runs in two slots, so that both marks stay (R110). -/
theorem State.swapRuns_ok {i j : Slot} {r r' : Run} (hd : s.NumbersDistinct) (h : s.tracker.course = some course)
    (hk : k < course.steps.length) (hab : a ≠ b) (hi : s.run i = some r) (hna : r.number = a) (hiq : i ∈ s.queue k)
    (hj : s.run j = some r') (hnb : r'.number = b) (hjq : j ∈ s.queue k) :
    s.swapRuns (k, a, b) =
      (((s.setQueues (s.tracker.queues.set k (exchange i j (s.queue k)))).setRun i
        (some { r with corrected := true })).setRun j (some { r' with corrected := true }), .ok) := by
  have hij : i ≠ j := by
    rintro rfl
    obtain rfl : r = r' := Option.some.inj (hi.symm.trans hj)
    exact hab (hna.symm.trans hnb)
  simp only [State.swapRuns, h, if_neg (Nat.not_le.mpr hk), if_neg hab, State.findRun_eq hd hi hna,
    State.findRun_eq hd hj hnb, if_pos (And.intro hiq hjq)]
  rw [State.modify_queues,
    State.markCorrected_both ((s.run_setQueues _ i).trans hi) ((s.run_setQueues _ j).trans hj) hij]

end SwapRuns

/-- A SWAP RUNS with a field out of its range is refused. -/
theorem exec_swapRuns_badValue {s : State} {tag k a1 a0 b1 b0 : Byte} (hc : s.session.state ≠ .closed)
    (hn : s.NextIs 0x32 tag [k, a1, a0, b1, b0])
    (hbad : 11 < k.toNat ∨ word16 a1 a0 = 0 ∨ word16 b1 b0 = 0) :
    exec .swapRuns s = .next (s.setLink (s.link.answer (.refuse .badValue))) :=
  congrArg Host.Outcome.next
    (State.live_serve_badValue (swapRuns_ignoresLink.beside s) hn rfl hc (parseSwapRuns_outOfRange hbad))

/-- The step of a SWAP RUNS whose fields are in range is its act, and the reply. -/
theorem exec_swapRuns {s t : State} {tag k a1 a0 b1 b0 : Byte} {r : Response} (hc : s.session.state ≠ .closed)
    (hn : s.NextIs 0x32 tag [k, a1, a0, b1, b0]) (hk : k.toNat ≤ 11) (ha : word16 a1 a0 ≠ 0)
    (hb : word16 b1 b0 ≠ 0) (hact : s.swapRuns (k.toNat, word16 a1 a0, word16 b1 b0) = (t, r)) :
    exec .swapRuns s = .next (t.setLink (s.link.answer r)) :=
  congrArg Host.Outcome.next
    (State.live_serve_acts (swapRuns_ignoresLink.beside s) hn rfl hc (parseSwapRuns_inRange hk ha hb) hact)

/-- Settles O33: the step of the request, by its checks in their order. -/
theorem swapRunsExchanges : Obligations.SwapRunsExchanges := by
  rintro s tag k a1 a0 b1 b0 _ _ hc hn rfl rfl hd
  refine ⟨exec_swapRuns_badValue hc hn, fun hk ha hb => ⟨fun hnone => ?_, fun course hsome => ⟨fun hbad => ?_,
    fun hlt hab => ⟨fun hmiss => ?_, fun i j r r' hi hna hiq hj hnb hjq => ?_⟩⟩⟩⟩
  · exact exec_swapRuns hc hn hk ha hb (State.swapRuns_noCourse hnone)
  · exact exec_swapRuns hc hn hk ha hb (State.swapRuns_badValue hsome hbad)
  · exact exec_swapRuns hc hn hk ha hb (State.swapRuns_notFound hsome hlt hab hmiss)
  · exact exec_swapRuns hc hn hk ha hb (State.swapRuns_ok hd hsome hlt hab hi hna hiq hj hnb hjq)

/-! ## DISCARD CROSSING (R104, R121) -/

theorem State.entryWithId_none {s : State} {id : Tick} (h : ∀ e ∈ s.tracker.unassigned, e.crossing.id ≠ id) :
    s.entryWithId id = none :=
  List.find?_eq_none.mpr fun e he => by simpa using h e he

section OldestEntry

variable {s : State} {id : Tick} {older newer : List UnassignedEntry} {e : UnassignedEntry}

/-- The entry found is the one with no other of its id in front (R104). -/
theorem State.entryWithId_oldest (h : s.tracker.unassigned = older ++ e :: newer) (he : e.crossing.id = id)
    (hold : ∀ e' ∈ older, e'.crossing.id ≠ id) : s.entryWithId id = some e :=
  List.find?_eq_some_iff_append.mpr
    ⟨beq_iff_eq.mpr he, older, newer, h, fun e' he' => by simpa using hold e' he'⟩

/-- Only the oldest entry leaves, wherever else its id stands behind it (R104). -/
theorem State.removeEntry_oldest (h : s.tracker.unassigned = older ++ e :: newer) (he : e.crossing.id = id)
    (hold : ∀ e' ∈ older, e'.crossing.id ≠ id) : s.removeEntry id = s.setUnassigned (older ++ newer) := by
  have hskip : ∀ e' ∈ older, ¬ (e'.crossing.id == id) = true := fun e' he' => by simpa using hold e' he'
  have hleave : (e :: newer).eraseP (fun e' : UnassignedEntry => e'.crossing.id == id) = newer :=
    List.eraseP_cons_of_pos (p := fun e' : UnassignedEntry => e'.crossing.id == id) (beq_iff_eq.mpr he)
  rw [State.removeEntry, h, List.eraseP_append_right _ hskip, hleave]

theorem State.discardCrossing_oldest (h : s.tracker.unassigned = older ++ e :: newer) (he : e.crossing.id = id)
    (hold : ∀ e' ∈ older, e'.crossing.id ≠ id) :
    s.discardCrossing id = (s.setUnassigned (older ++ newer), .ok) := by
  simp only [State.discardCrossing, State.entryWithId_oldest h he hold, State.removeEntry_oldest h he hold]

end OldestEntry

theorem State.discardCrossing_notFound {s : State} {id : Tick}
    (h : ∀ e ∈ s.tracker.unassigned, e.crossing.id ≠ id) : s.discardCrossing id = (s, .refuse .notFound) := by
  simp only [State.discardCrossing, State.entryWithId_none h]

/-- The step of a DISCARD CROSSING is its act, and the reply. -/
theorem exec_discardCrossing {s t : State} {tag i3 i2 i1 i0 : Byte} {r : Response} (hc : s.session.state ≠ .closed)
    (hn : s.NextIs 0x35 tag [i3, i2, i1, i0]) (hact : s.discardCrossing (word32 i3 i2 i1 i0) = (t, r)) :
    exec .discardCrossing s = .next (t.setLink (s.link.answer r)) :=
  congrArg Host.Outcome.next (State.live_serve_acts (discardCrossing_ignoresLink.beside s) hn rfl hc rfl hact)

/-- Settles O37: the step of the request, by whether an entry has the id. -/
theorem discardCrossingDiscards : Obligations.DiscardCrossingDiscards := by
  rintro s tag i3 i2 i1 i0 _ hc hn rfl
  exact ⟨fun hmiss => exec_discardCrossing hc hn (State.discardCrossing_notFound hmiss),
    fun _ _ _ h he hold => exec_discardCrossing hc hn (State.discardCrossing_oldest h he hold)⟩

end Sys2Proof.Machine
end

section
/-! PROOFS. The laws of report delivery (R148, R150, R152, R154), for the Session alone: what each of its operations does to
the stored sequences, to the reports in flight and to the timers. -/

namespace Sys2Proof.Machine

/-! ## Sequences (R148) -/

/-- The sequences of `rs`, oldest first, are consecutive modulo 65,536, and `next` follows the newest. -/
def SequencesUpTo (rs : List Report) (next : Word) : Prop :=
  ∀ i, (h : i < rs.length) → rs[i].sequence + BitVec.ofNat 16 (rs.length - i) = next

theorem Session.sequencesConsecutive_iff (ss : Session) :
    ss.SequencesConsecutive ↔ SequencesUpTo ss.reports ss.nextSequence := Iff.rfl

theorem SequencesUpTo.nil (next : Word) : SequencesUpTo [] next := fun _ h => absurd h (Nat.not_lt_zero _)

/-- The oldest reports leave (R151). -/
theorem SequencesUpTo.suffix {rs ss : List Report} {next : Word} (hs : ss <:+ rs) (h : SequencesUpTo rs next) :
    SequencesUpTo ss next := by
  obtain ⟨older, rfl⟩ := hs
  intro i hi
  have hold := h (older.length + i) (by simp only [List.length_append]; omega)
  have hcount : (older ++ ss).length - (older.length + i) = ss.length - i := by
    simp only [List.length_append]; omega
  rw [List.getElem_append_right (Nat.le_add_right _ _), hcount] at hold
  simpa only [Nat.add_sub_cancel_left] using hold

/-- A report with the next sequence is stored (R146). -/
theorem SequencesUpTo.append {rs : List Report} {r : Report} (h : SequencesUpTo rs r.sequence) :
    SequencesUpTo (rs ++ [r]) (r.sequence + 1) := by
  intro i hi
  simp only [List.length_append, List.length_singleton] at hi ⊢
  by_cases hlt : i < rs.length
  · have hone : rs.length + 1 - i = rs.length - i + 1 := by omega
    rw [List.getElem_append_left hlt, hone, BitVec.ofNat_add, ← BitVec.add_assoc, h i hlt]
    rfl
  · obtain rfl : i = rs.length := by omega
    simp

/-- A change of the reports that leaves their sequences. -/
theorem SequencesUpTo.map {rs : List Report} {next : Word} {f : Report → Report}
    (hf : ∀ r, (f r).sequence = r.sequence) (h : SequencesUpTo rs next) : SequencesUpTo (rs.map f) next := by
  intro i hi
  rw [List.length_map] at hi
  simpa only [List.getElem_map, hf, List.length_map] using h i hi

/-- The queue is far shorter than the range of the sequences, so no two stored reports have the same one. -/
theorem SequencesUpTo.nodup {rs : List Report} {next : Word} (h : SequencesUpTo rs next)
    (hlen : rs.length ≤ Config.reportCapacity) : (rs.map (·.sequence)).Nodup := by
  rw [List.Nodup, List.pairwise_map, List.pairwise_iff_getElem]
  intro i j hi hj hij heq
  have hback : BitVec.ofNat 16 (rs.length - i) = BitVec.ofNat 16 (rs.length - j) := by
    have := (h i hi).trans (h j hj).symm
    rwa [heq, BitVec.add_right_inj] at this
  have hnat := congrArg BitVec.toNat hback
  simp only [Config.reportCapacity] at hlen
  simp only [BitVec.toNat_ofNat] at hnat
  omega

/-! ## The reports in flight (R150) -/

theorem Delivery.ne_inFlight {d : Delivery} : d ≠ .inFlight ↔ d = .unsent := by
  cases d <;> decide

/-- Every report older than one in flight is in flight. -/
def InFlightFirst (rs : List Report) : Prop :=
  rs.Pairwise fun older newer => newer.delivery = .inFlight → older.delivery = .inFlight

theorem InFlightFirst.of_unsent {rs : List Report} (h : ∀ r ∈ rs, r.delivery = .unsent) : InFlightFirst rs :=
  List.pairwise_of_forall_mem_list fun _ _ r hr hfly => nomatch (h r hr).symm.trans hfly

/-- The reports in flight stand before all others exactly when no report behind the first unsent one is in flight. -/
theorem inFlightFirst_iff (rs : List Report) :
    InFlightFirst rs ↔ ∀ r ∈ rs.dropWhile (fun r => r.delivery == .inFlight), r.delivery = .unsent := by
  induction rs with
  | nil => simp [InFlightFirst]
  | cons r rs ih =>
    by_cases hr : r.delivery = .inFlight
    · rw [List.dropWhile_cons_of_pos (by simp [hr]), ← ih]
      simp [InFlightFirst, hr]
    · rw [List.dropWhile_cons_of_neg (by simp [hr])]
      constructor
      · intro h x hx
        obtain rfl | hx := List.mem_cons.mp hx
        · exact Delivery.ne_inFlight.mp hr
        · exact Delivery.ne_inFlight.mp fun hfly => hr (List.rel_of_pairwise_cons h hx hfly)
      · exact InFlightFirst.of_unsent

theorem Session.inFlight_eq_countP (ss : Session) : ss.inFlight = ss.reports.countP (·.delivery = .inFlight) :=
  List.countP_eq_length_filter.symm

theorem Session.inFlight_eq_zero {ss : Session} : ss.inFlight = 0 ↔ ∀ r ∈ ss.reports, r.delivery = .unsent := by
  simp [Session.inFlight_eq_countP, List.countP_eq_zero, Delivery.ne_inFlight]

/-- A recall leaves no report in flight. -/
theorem recallReports_unsent (rs : List Report) : ∀ r ∈ recallReports rs, r.delivery = .unsent := by
  simp [recallReports]

/-! ## The laws, operation by operation -/

theorem zero_lt_retryLimit : 0 < Config.retryLimit := by decide

/-- With no report in flight the laws of delivery are those of the sequences and the ranges, and a stopped retry timer. -/
theorem Session.lawful_of_unsent {ss : Session} (hunsent : ∀ r ∈ ss.reports, r.delivery = .unsent)
    (hlen : ss.reports.length ≤ Config.reportCapacity) (hseq : SequencesUpTo ss.reports ss.nextSequence)
    (hw : 1 ≤ ss.window.toNat ∧ ss.window.toNat ≤ 8) (hk : ss.keepalive.toNat ≤ 120)
    (hcount : ss.retryCount < Config.retryLimit) (hclosed : ss.state ≠ .opened → ss.retryCount = 0)
    (hretry : ss.retryTimer = none)
    (hkeep : ss.keepaliveTimer.isSome = true ↔ ss.state = .opened ∧ ss.keepalive ≠ 0) : ss.Lawful := by
  have hfly : ss.inFlight = 0 := Session.inFlight_eq_zero.mpr hunsent
  refine ⟨hlen, ss.sequencesConsecutive_iff.mpr hseq,
    ⟨by omega, fun _ => hfly, (inFlightFirst_iff _).mp (.of_unsent hunsent)⟩, hw.1, hw.2, hk, hcount, hclosed, ?_, hkeep⟩
  simp [hretry, hfly]

/-- A stored report is unsent and stands behind all others (R146); a refused one leaves the rest as it is (R147). -/
theorem Session.Lawful.store {ss : Session} (h : ss.Lawful) (t : Tick) (b : ReportBody) : (ss.store t b).Lawful := by
  obtain ⟨hlen, hseq, ⟨hwin, hclosed, hfirst⟩, hw1, hw8, hk, hcount, hc0, hretry, hkeep⟩ := h
  by_cases hroom : ss.reports.length < 48
  · have hfly : (ss.store t b).inFlight = ss.inFlight := by
      rw [Session.store_room hroom]
      simp [Session.inFlight_eq_countP, List.countP_append]
    have hfirst' : InFlightFirst (ss.store t b).reports := by
      rw [Session.store_room hroom]
      refine List.pairwise_append.mpr ⟨(inFlightFirst_iff _).mpr hfirst, List.pairwise_singleton _ _, ?_⟩
      simp
    refine ⟨?_, ?_, ⟨?_, ?_, (inFlightFirst_iff _).mp hfirst'⟩, ?_⟩
    · rw [Session.store_room hroom]
      simpa using hroom
    · rw [Session.store_room hroom]
      exact SequencesUpTo.append (r := ⟨ss.nextSequence, b, t, _, .unsent⟩) hseq
    · rw [hfly, Session.store_room hroom]
      exact hwin
    · rw [hfly, Session.store_room hroom]
      exact hclosed
    · unfold Session.TimersLawful
      rw [hfly, Session.store_room hroom]
      exact ⟨hw1, hw8, hk, hcount, hc0, hretry, hkeep⟩
  · rw [Session.store_full (Nat.not_lt.mp hroom)]
    exact ⟨hlen, hseq, ⟨hwin, hclosed, hfirst⟩, hw1, hw8, hk, hcount, hc0, hretry, hkeep⟩

theorem keepaliveFrom_isSome (now : Instant) (period : Byte) :
    (keepaliveFrom now period).isSome = true ↔ period ≠ 0 := by
  unfold keepaliveFrom
  split <;> simp_all

/-- The reports left after an ack are the newest of those stored (R151). -/
theorem reportsAfter_suffix (ack : Word) (rs : List Report) : reportsAfter ack rs <:+ rs :=
  (List.tail_suffix _).trans (List.dropWhile_suffix _)

/-- An ack takes the oldest reports away, and the retry timer then runs while some are still in flight (R151, R152). -/
theorem Session.Lawful.applyAck {ss : Session} (h : ss.Lawful) (now : Instant) (ack : Word) :
    (ss.applyAck now ack).Lawful := by
  unfold Session.applyAck
  split
  · obtain ⟨hlen, hseq, ⟨hwin, hclosed, hfirst⟩, hw1, hw8, hk, -, -, -, hkeep⟩ := h
    have hsuffix := reportsAfter_suffix ack ss.reports
    have hfly : (reportsAfter ack ss.reports).countP (·.delivery = .inFlight) ≤ ss.inFlight := by
      rw [Session.inFlight_eq_countP]
      exact hsuffix.sublist.countP_le
    refine ⟨hsuffix.sublist.length_le.trans hlen, SequencesUpTo.suffix hsuffix hseq,
      ⟨?_, fun hne => ?_, ?_⟩, hw1, hw8, hk, zero_lt_retryLimit, fun _ => rfl, ?_, hkeep⟩
    · rw [Session.inFlight_eq_countP]
      exact hfly.trans hwin
    · have hnone := hclosed hne
      rw [Session.inFlight_eq_countP]
      exact Nat.le_zero.mp (hnone ▸ hfly)
    · exact (inFlightFirst_iff _).mp (((inFlightFirst_iff _).mpr hfirst).sublist hsuffix.sublist)
    · dsimp only
      split
      · next hnone => exact ⟨nofun, fun hpos => absurd hnone (Nat.ne_of_gt hpos)⟩
      · next hsome => exact ⟨fun _ => Nat.pos_of_ne_zero hsome, fun _ => rfl⟩
  · exact h

/-- An arrival restarts the keepalive timer, opens a SILENT session and hands its ack on (R131, R144). -/
theorem Session.Lawful.arrival {ss : Session} (h : ss.Lawful) (now : Instant) (ack : Word) :
    (ss.arrival now ack).Lawful := by
  obtain ⟨hlen, hseq, ⟨hwin, hclosed, hfirst⟩, hw1, hw8, hk, hcount, hc0, hretry, hkeep⟩ := h
  unfold Session.arrival
  split
  · exact ⟨hlen, hseq, ⟨hwin, hclosed, hfirst⟩, hw1, hw8, hk, hcount, hc0, hretry, hkeep⟩
  · next hopen =>
    have hrestarted : ({ ss with keepaliveTimer := keepaliveFrom now ss.keepalive } : Session).Lawful :=
      ⟨hlen, hseq, ⟨hwin, hclosed, hfirst⟩, hw1, hw8, hk, hcount, hc0, hretry,
        by simp [keepaliveFrom_isSome, hopen]⟩
    exact hrestarted.applyAck now ack
  · next hsilent =>
    have hnone : ss.inFlight = 0 := hclosed (by simp [hsilent])
    have hstopped : ss.retryTimer = none := by simpa [hnone] using hretry
    have hopened : ({ ss with
        state := .opened, retryCount := 0, keepaliveTimer := keepaliveFrom now ss.keepalive } : Session).Lawful :=
      Session.lawful_of_unsent (Session.inFlight_eq_zero.mp hnone) hlen hseq ⟨hw1, hw8⟩ hk zero_lt_retryLimit
        (fun _ => rfl) hstopped (by simp [keepaliveFrom_isSome])
    exact hopened.applyAck now ack

/-! ## A report becomes in flight (R149) -/

/-- Marking the report with a sequence leaves reports with other sequences. -/
theorem map_mark_absent {rs : List Report} {q : Word} (f : Report → Report) (h : q ∉ rs.map (·.sequence)) :
    rs.map (fun r => if r.sequence = q then f r else r) = rs := by
  refine (List.map_congr_left fun r hr => if_neg ?_).trans (List.map_id rs)
  exact fun heq => h (heq ▸ List.mem_map_of_mem hr)

/-- Of reports with different sequences only the one named is marked. -/
theorem map_mark_eq {older newer : List Report} {r : Report} (f : Report → Report)
    (hd : ((older ++ r :: newer).map (·.sequence)).Nodup) :
    (older ++ r :: newer).map (fun x => if x.sequence = r.sequence then f x else x) = older ++ f r :: newer := by
  rw [List.map_append, List.map_cons, List.nodup_append, List.nodup_cons] at hd
  obtain ⟨-, ⟨hnewer, -⟩, holder⟩ := hd
  have hne : r.sequence ∉ older.map (·.sequence) := fun hmem => holder _ hmem _ List.mem_cons_self rfl
  rw [List.map_append, List.map_cons, if_pos rfl, map_mark_absent f hne, map_mark_absent f hnewer]

/-- A report that the Session admits is stored behind reports in flight only, in an OPEN session whose window has room
(R149). -/
theorem Session.admits_split {ss : Session} {q : Word} (h : ss.admits q = true) :
    ss.state = .opened ∧ ss.inFlight < ss.window.toNat ∧ ∃ older r newer, ss.reports = older ++ r :: newer
      ∧ r.sequence = q ∧ ∀ x ∈ older, x.delivery = .inFlight := by
  simp only [Session.admits, Bool.and_eq_true, List.any_eq_true, List.all_eq_true, beq_iff_eq, decide_eq_true_eq] at h
  obtain ⟨⟨⟨⟨x, hx, hxq⟩, hopen⟩, hroom⟩, holder⟩ := h
  refine ⟨hopen, hroom, ss.reports.takeWhile (fun r => r.sequence ≠ q), ?_⟩
  cases hrest : ss.reports.dropWhile (fun r => r.sequence ≠ q) with
  | nil => exact absurd hxq (by simpa using List.dropWhile_eq_nil_iff.mp hrest x hx)
  | cons r newer =>
    have hr := List.head?_dropWhile_not (fun r : Report => decide (r.sequence ≠ q)) ss.reports
    rw [hrest] at hr
    refine ⟨r, newer, ?_, by simpa using hr, holder⟩
    rw [← hrest, List.takeWhile_append_dropWhile]

/-- The window has room for the report admitted, it stands behind reports in flight only, and the retry timer runs (R149,
R150, R152). -/
theorem Session.Lawful.markInFlight {ss : Session} (h : ss.Lawful) (now : Instant) {q : Word}
    (hadm : ss.admits q = true) : (ss.markInFlight now q).Lawful := by
  obtain ⟨hlen, hseq, ⟨-, -, hfirst⟩, hw1, hw8, hk, hcount, hc0, -, hkeep⟩ := h
  obtain ⟨hopen, hroom, older, r, newer, hsplit, rfl, holder⟩ := Session.admits_split hadm
  have hmark : (ss.markInFlight now r.sequence).reports = older ++ { r with delivery := .inFlight } :: newer := by
    have hd := (ss.sequencesConsecutive_iff.mp hseq).nodup hlen
    rw [hsplit] at hd
    rw [← map_mark_eq (fun r => { r with delivery := .inFlight }) hd, ← hsplit]
    rfl
  have hwin : (ss.markInFlight now r.sequence).inFlight ≤ ss.inFlight + 1 := by
    rw [Session.inFlight_eq_countP, Session.inFlight_eq_countP, hmark, hsplit]
    simp only [List.countP_append, List.countP_cons, decide_true, if_true]
    omega
  have hpos : 0 < (ss.markInFlight now r.sequence).inFlight := by
    rw [Session.inFlight_eq_countP, hmark]
    simp
  have hfirst' : InFlightFirst (ss.markInFlight now r.sequence).reports := by
    have hold := (inFlightFirst_iff _).mpr hfirst
    rw [hsplit, InFlightFirst, List.pairwise_append, List.pairwise_cons] at hold
    obtain ⟨hpre, ⟨-, hpost⟩, -⟩ := hold
    rw [hmark, InFlightFirst, List.pairwise_append, List.pairwise_cons]
    exact ⟨hpre, ⟨fun _ _ _ => rfl, hpost⟩, fun x hx _ _ _ => holder x hx⟩
  refine ⟨?_, SequencesUpTo.map (fun x => ?_) hseq, ⟨?_, fun hne => absurd hopen hne, (inFlightFirst_iff _).mp hfirst'⟩,
    hw1, hw8, hk, hcount, hc0, ⟨fun _ => hpos, fun _ => rfl⟩, hkeep⟩
  · exact (List.length_map _).trans_le hlen
  · split <;> rfl
  · exact hwin.trans hroom

end Sys2Proof.Machine
end

section
/-! PROOFS. Every step keeps the laws of report delivery (R141, R148 to R155). Nearly every operation does nothing to the
Session but store reports (`OnlyStores`), which keeps them. The others are the arrival of a request frame, OPEN SESSION, a
report sent, the go-back of the retry timer, and every way in which the session is left or reset. -/

namespace Sys2Proof.Machine

/-! ## Leaving, going back and opening a session -/

theorem SequencesUpTo.recall {rs : List Report} {next : Word} (h : SequencesUpTo rs next) :
    SequencesUpTo (recallReports rs) next := h.map fun _ => rfl

theorem length_recallReports (rs : List Report) : (recallReports rs).length = rs.length := List.length_map _

theorem recallReports_idem (rs : List Report) : recallReports (recallReports rs) = recallReports rs := List.map_map

/-- The Session after it has gone CLOSED or SILENT (R129, R143, R155). -/
theorem Session.Lawful.leave {ss : Session} (h : ss.Lawful) {next : SessionState} (hnext : next ≠ .opened) :
    ({ ss with
      state := next, retryCount := 0, retryTimer := none, keepaliveTimer := none
      reports := recallReports ss.reports } : Session).Lawful := by
  obtain ⟨hlen, hseq, -, hw1, hw8, hk, -⟩ := h
  exact Session.lawful_of_unsent (recallReports_unsent _) ((length_recallReports _).trans_le hlen)
    (SequencesUpTo.recall hseq) ⟨hw1, hw8⟩ hk zero_lt_retryLimit (fun _ => rfl) rfl (by simp [hnext])

/-- The Session after a go-back below the limit (R153). -/
theorem Session.Lawful.goBack {ss : Session} (h : ss.Lawful) (hopen : ss.state = .opened)
    (hcount : ss.retryCount + 1 < Config.retryLimit) :
    ({ ss with
      reports := recallReports ss.reports, retryCount := ss.retryCount + 1, retryTimer := none } : Session).Lawful := by
  obtain ⟨hlen, hseq, -, hw1, hw8, hk, -, -, -, hkeep⟩ := h
  exact Session.lawful_of_unsent (recallReports_unsent _) ((length_recallReports _).trans_le hlen)
    (SequencesUpTo.recall hseq) ⟨hw1, hw8⟩ hk hcount (fun hne => absurd hopen hne) rfl hkeep

/-- An OPEN SESSION with DISCARD keeps no report, and any other all of them; those kept are unsent (R142). -/
theorem Session.Lawful.openWith {ss : Session} (h : ss.Lawful) (now : Instant) {window keepalive : Byte} (discard : Bool)
    (hw : 1 ≤ window.toNat ∧ window.toNat ≤ 8) (hk : keepalive.toNat ≤ 120) :
    (ss.openWith now window keepalive discard).Lawful := by
  obtain ⟨hlen, hseq, -⟩ := h
  have hkeep : (keepaliveFrom now keepalive).isSome = true ↔ SessionState.opened = .opened ∧ keepalive ≠ 0 := by
    simp [keepaliveFrom_isSome]
  cases discard with
  | true =>
    exact Session.lawful_of_unsent nofun (Nat.zero_le _) (.nil _) hw hk zero_lt_retryLimit (fun _ => rfl) rfl hkeep
  | false =>
    exact Session.lawful_of_unsent (recallReports_unsent _) ((length_recallReports _).trans_le hlen)
      (SequencesUpTo.recall hseq) hw hk zero_lt_retryLimit (fun _ => rfl) rfl hkeep

theorem Session.reset_lawful (cause : ResetCause) : (Session.reset cause).Lawful :=
  Session.lawful_of_unsent (by simp [Session.reset]) (by simp [Session.reset])
    (SequencesUpTo.append (r := ⟨1, .reset cause, 0, none, .unsent⟩) (.nil 1)) (by simp [Session.reset])
    (by simp [Session.reset]) zero_lt_retryLimit (fun _ => rfl) rfl (by simp [Session.reset])

/-! ## Operations that only store reports -/

/-- One report is stored, or refused and counted (R146, R147). -/
def Session.StoresOne (ss ss' : Session) : Prop := ∃ t b, ss' = ss.store t b

/-- The Session of `t` is that of `s` with reports stored one after another, if any. -/
structure OnlyStores (s t : State) : Prop where
  session : Relation.ReflTransGen Session.StoresOne s.session t.session

theorem OnlyStores.of_eq {s t : State} (h : t.session = s.session) : OnlyStores s t := ⟨h ▸ .refl⟩

theorem OnlyStores.refl (s : State) : OnlyStores s s := .of_eq rfl

theorem OnlyStores.trans {s t u : State} (h : OnlyStores s t) (k : OnlyStores t u) : OnlyStores s u :=
  ⟨h.session.trans k.session⟩

theorem OnlyStores.foldl {β : Type} {f : State → β → State} (hf : ∀ s b, OnlyStores s (f s b)) (bs : List β)
    (s : State) : OnlyStores s (bs.foldl f s) := by
  induction bs generalizing s with
  | nil => exact .refl s
  | cons b bs ih => exact (hf s b).trans (ih _)

theorem OnlyStores.lawful {s t : State} (h : OnlyStores s t) (hs : s.session.Lawful) : t.session.Lawful := by
  obtain ⟨hstored⟩ := h
  generalize t.session = ss at hstored
  induction hstored with
  | refl => exact hs
  | tail _ hstore ih =>
    obtain ⟨_, _, rfl⟩ := hstore
    exact ih.store _ _

theorem State.report_stores (s : State) (b : ReportBody) : OnlyStores s (s.report b) := ⟨.single ⟨_, _, rfl⟩⟩

theorem Session.storesOne_storeAll (ss : Session) (t : Tick) (bs : List ReportBody) :
    Relation.ReflTransGen Session.StoresOne ss (ss.storeAll t bs) := by
  induction bs generalizing ss with
  | nil => exact .refl
  | cons b bs ih => exact .head ⟨t, b, rfl⟩ (ih _)

theorem TrackerChange.stores {s t : State} (h : TrackerChange s t) : OnlyStores s t := by
  obtain ⟨bs, hbs⟩ := h.session
  exact ⟨hbs ▸ Session.storesOne_storeAll _ _ _⟩

theorem State.changeClock_stores (s : State) (c : ClockState) (n : Tick) (why : ClockReason) :
    OnlyStores s (s.changeClock c n why) := ⟨.single ⟨_, _, rfl⟩⟩

theorem State.setGate_stores (s : State) (g : Gate) (u : GateUnit) : OnlyStores s (s.setGate g u) := .of_eq rfl

theorem State.appendCrossing_stores (s : State) (g : Gate) (t : Tick) (src : CrossingSource) :
    OnlyStores s (s.appendCrossing g t src) := by
  unfold State.appendCrossing
  split
  · exact ⟨.single ⟨_, _, rfl⟩⟩
  · exact .of_eq rfl

theorem State.offerCrossing_stores (s : State) (g : Gate) (t : Tick) : OnlyStores s (s.offerCrossing g t) := by
  unfold State.offerCrossing
  split
  · exact (s.setGate_stores _ _).trans (State.appendCrossing_stores _ _ _ _)
  · exact (s.setGate_stores _ _).trans (State.report_stores _ _)

/-! ## The steps of the clock and the gates -/

theorem State.clockLimit_stores (s : State) : OnlyStores s s.clockLimit := by
  unfold State.clockLimit
  split
  · exact s.changeClock_stores _ _ _
  · exact .refl s

theorem State.haltEnd_stores (s : State) : OnlyStores s s.haltEnd := by
  unfold State.haltEnd
  split
  · split
    · exact s.changeClock_stores _ _ _
    · exact .refl s
  all_goals exact .refl s

theorem State.enterGateIdle_stores (s : State) (g : Gate) : OnlyStores s (s.enterGateIdle g) := by
  unfold State.enterGateIdle
  split
  · exact (s.setGate_stores _ _).trans (State.report_stores _ _)
  · exact s.setGate_stores _ _

/-- An acceptance stores the reports of the start and of the crossing, where it makes them (R26, R27). -/
theorem State.settleAcceptance_stores (s : State) (g : Gate) (t : Tick) (stale : Bool) :
    OnlyStores s (s.settleAcceptance g t stale) := by
  unfold State.settleAcceptance
  split
  · exact s.setGate_stores _ _
  · split
    · exact s.offerCrossing_stores _ _
    · exact s.offerCrossing_stores _ _
    · split
      · exact ((s.changeClock_stores _ _ _).trans (State.clockStartEvent_change _ _).stores).trans
          (State.offerCrossing_stores _ _ _)
      · exact s.setGate_stores _ _
    all_goals exact s.setGate_stores _ _

theorem State.leadingEdge_stores (s : State) (g : Gate) : OnlyStores s (s.leadingEdge g) := by
  unfold State.leadingEdge
  repeat' split
  all_goals exact .of_eq rfl

theorem State.shortPulse_stores (s : State) (g : Gate) : OnlyStores s (s.shortPulse g) := by
  unfold State.shortPulse
  repeat' split
  all_goals exact .of_eq rfl

theorem State.acceptance_stores (s : State) (g : Gate) : OnlyStores s (s.acceptance g) := by
  unfold State.acceptance
  split
  · split
    · exact (s.setGate_stores _ _).trans (State.settleAcceptance_stores _ _ _ _)
    · exact .refl s
  all_goals exact .refl s

theorem State.edgeInHoldoff_stores (s : State) (g : Gate) : OnlyStores s (s.edgeInHoldoff g) := by
  unfold State.edgeInHoldoff
  repeat' split
  all_goals exact .of_eq rfl

theorem State.holdoffEnd_stores (s : State) (g : Gate) : OnlyStores s (s.holdoffEnd g) := by
  unfold State.holdoffEnd
  split
  · split
    · split
      · exact s.setGate_stores _ _
      · exact s.enterGateIdle_stores g
    · exact .refl s
  all_goals exact .refl s

theorem State.blockedInputInactive_stores (s : State) (g : Gate) : OnlyStores s (s.blockedInputInactive g) := by
  unfold State.blockedInputInactive
  split
  · split
    · exact .refl s
    · exact s.enterGateIdle_stores g
  all_goals exact .refl s

theorem State.gateAlarmBlocked_stores (s : State) (g : Gate) : OnlyStores s (s.gateAlarmBlocked g) := by
  unfold State.gateAlarmBlocked
  split
  · split
    · exact (s.setGate_stores _ _).trans (State.report_stores _ _)
    · exact .refl s
  · exact .refl s

theorem State.gateEnableSample_stores (s : State) (g : Gate) : OnlyStores s (s.gateEnableSample g) := by
  unfold State.gateEnableSample
  split
  · split
    · split
      · exact s.setGate_stores _ _
      · exact s.enterGateIdle_stores g
    · exact .refl s
  all_goals exact .refl s

theorem State.settleGate_stores (s : State) (g : Gate) : OnlyStores s (s.settleGate g) :=
  (s.gateEnableSample_stores g).trans <| (State.blockedInputInactive_stores _ g).trans <|
    (State.edgeInHoldoff_stores _ g).trans <| (State.holdoffEnd_stores _ g).trans <| (State.shortPulse_stores _ g).trans <|
    (State.acceptance_stores _ g).trans <| (State.leadingEdge_stores _ g).trans (State.gateAlarmBlocked_stores _ g)

theorem State.take_stores (s : State) : OnlyStores s s.take := by
  unfold State.take
  split
  · next c rest _ _ =>
    have hleft : OnlyStores s { s with crossings := { s.crossings with records := rest } } := .of_eq rfl
    exact (hleft.trans (State.place_change _ c).stores).trans (State.examineDeadlines_change _).stores
  all_goals exact .refl s

/-! ## The receiver and the transmitter -/

theorem State.dropPartial_stores (s : State) : OnlyStores s s.dropPartial := by
  unfold State.dropPartial
  split <;> exact .of_eq rfl

theorem State.syncByteFound_stores (s : State) : OnlyStores s s.syncByteFound := by
  have hfound : OnlyStores s (s.dropPartial.characterSeen.setReceiver .length) :=
    s.dropPartial_stores.trans (.of_eq rfl)
  unfold State.syncByteFound
  split
  case h_1 | h_2 =>
    split
    · exact .refl s
    · exact hfound
  all_goals exact .refl s

theorem State.lengthAccepted_stores (s : State) (len : Byte) : OnlyStores s (s.lengthAccepted len) := by
  unfold State.lengthAccepted
  repeat' split
  all_goals exact .of_eq rfl

theorem State.bodyCharacter_stores (s : State) (c : Byte) : OnlyStores s (s.bodyCharacter c) := by
  unfold State.bodyCharacter
  repeat' split
  all_goals exact .of_eq rfl

theorem State.interCharacterGap_stores (s : State) : OnlyStores s s.interCharacterGap := by
  unfold State.interCharacterGap
  split
  · exact s.dropPartial_stores
  · exact .refl s

theorem State.framingError_stores (s : State) : OnlyStores s s.framingError := by
  unfold State.framingError
  split
  · exact .refl s
  · exact s.dropPartial_stores

theorem State.breakEnd_stores (s : State) : OnlyStores s s.breakEnd := by
  unfold State.breakEnd
  split <;> exact .of_eq rfl

theorem State.settleGap_stores (s : State) : OnlyStores s s.settleGap := by
  obtain ⟨r, dropped, -, h⟩ := s.settleGap_eq
  rw [h]
  exact .of_eq rfl

theorem State.startReport_stores (s : State) : OnlyStores s s.startReport := by
  unfold State.startReport
  split <;> exact .of_eq rfl

theorem State.startNext_stores (s : State) : OnlyStores s s.startNext := by
  unfold State.startNext
  split
  · exact .of_eq rfl
  · split
    · exact .of_eq rfl
    · exact s.startReport_stores

theorem State.frameStart_stores (s : State) : OnlyStores s s.frameStart := by
  have hmeet : OnlyStores s s.meet := .of_eq rfl
  unfold State.frameStart
  split
  · split
    · split
      · exact hmeet.trans (State.startReport_stores _)
      · exact hmeet.trans (State.startNext_stores _)
    · exact s.startNext_stores
  all_goals exact .refl s

theorem State.shortReplySent_stores (s : State) : OnlyStores s s.shortReplySent := by
  unfold State.shortReplySent
  split <;> exact .of_eq rfl

/-! ## The owners' acts -/

theorem State.enableGate_stores (s : State) (a : Gate × GateConfig) : OnlyStores s (s.enableGate a).1 := by
  unfold State.enableGate
  repeat' split
  all_goals exact .of_eq rfl

theorem State.readGate_stores (s : State) (a : Gate × Bool) : OnlyStores s (s.readGate a).1 := by
  unfold State.readGate
  split <;> exact .of_eq rfl

theorem State.armClock_stores (s : State) (g : Gate) : OnlyStores s (s.armClock g).1 := by
  unfold State.armClock
  split
  · split
    · exact s.changeClock_stores _ _ _
    · exact .refl s
  all_goals exact .refl s

theorem State.disarmClock_stores (s : State) (u : Unit) : OnlyStores s (s.disarmClock u).1 := by
  unfold State.disarmClock
  split
  · exact ⟨.single ⟨_, _, rfl⟩⟩
  all_goals exact .refl s

theorem State.startClock_stores (s : State) (preset : Tick) : OnlyStores s (s.startClock preset).1 := by
  unfold State.startClock
  split
  · exact (s.changeClock_stores _ _ _).trans (State.clockStartEvent_change _ _).stores
  all_goals exact .refl s

theorem State.haltClock_stores (s : State) (u : Unit) : OnlyStores s (s.haltClock u).1 := by
  unfold State.haltClock
  split
  · exact s.changeClock_stores _ _ _
  all_goals exact .refl s

theorem State.resumeClock_stores (s : State) (u : Unit) : OnlyStores s (s.resumeClock u).1 := by
  unfold State.resumeClock
  split
  · split
    · exact .refl s
    · exact s.changeClock_stores _ _ _
  · exact s.changeClock_stores _ _ _
  all_goals exact .refl s

theorem State.clear_stores (s : State) : OnlyStores s s.clear.1 := by
  unfold State.clear
  split
  · exact ⟨.single ⟨_, _, rfl⟩⟩
  all_goals exact .of_eq rfl

theorem State.clearClock_stores (s : State) (u : Unit) : OnlyStores s (s.clearClock u).1 := by
  unfold State.clearClock
  split
  case h_1 | h_2 | h_3 => exact .refl s
  all_goals
    split
    · exact .refl s
    · split
      · exact .refl s
      · exact s.clear_stores

theorem State.setCourse_stores (s : State) (c : Course) : OnlyStores s (s.setCourse c).1 := by
  unfold State.setCourse
  repeat' split
  all_goals exact .of_eq rfl

theorem State.getCourse_stores (s : State) (u : Unit) : OnlyStores s (s.getCourse u).1 := by
  unfold State.getCourse
  split <;> exact .refl s

theorem State.stageRun_stores (s : State) (n : Word) : OnlyStores s (s.stageRun n).1 := by
  unfold State.stageRun
  repeat' split
  all_goals exact .of_eq rfl

theorem State.withdrawRun_stores (s : State) (n : Word) : OnlyStores s (s.withdrawRun n).1 := by
  unfold State.withdrawRun
  split
  · exact .refl s
  · split
    · exact ⟨.single ⟨_, _, rfl⟩⟩
    · exact .refl s

theorem State.releaseRun_stores (s : State) (n : Word) : OnlyStores s (s.releaseRun n).1 := by
  unfold State.releaseRun
  repeat' split
  all_goals exact .of_eq rfl

theorem State.startGroup_stores (s : State) (t : Option Tick) : OnlyStores s (s.startGroup t).1 := by
  unfold State.startGroup
  repeat' split
  case isFalse => exact (s.groupStart_change _).stores
  all_goals exact .refl s

theorem State.readRun_stores (s : State) (n : Word) : OnlyStores s (s.readRun n).1 := by
  unfold State.readRun
  split <;> exact .refl s

theorem State.swapRuns_stores (s : State) (a : Nat × Word × Word) : OnlyStores s (s.swapRuns a).1 := by
  unfold State.swapRuns
  repeat' split
  all_goals exact .of_eq rfl

theorem State.assignCrossing_stores (s : State) (a : Tick × Word) : OnlyStores s (s.assignCrossing a).1 := by
  unfold State.assignCrossing
  split
  · exact .refl s
  · next e _ =>
    split
    · exact .refl s
    · next i r _ =>
      split
      · exact .refl s
      · have h := ((s.setUnassigned_change _).trans (State.advance_change (s.removeEntry a.1) i e.crossing true)).trans
          (State.markCorrected_change _ i)
        dsimp only
        split
        · exact (h.trans (State.examineDeadlines_change _)).stores
        · exact h.stores

theorem State.voidSplit_stores (s : State) (n : Word) : OnlyStores s (s.voidSplit n).1 := by
  unfold State.voidSplit
  split
  · exact .refl s
  · split
    · exact .refl s
    · exact .refl s
    · exact (s.voidLast_change _ _ _ _).stores

theorem State.discardCrossing_stores (s : State) (id : Tick) : OnlyStores s (s.discardCrossing id).1 := by
  unfold State.discardCrossing
  split <;> exact .of_eq rfl

theorem State.holdAssignment_stores (s : State) (u : Unit) : OnlyStores s (s.holdAssignment u).1 := by
  unfold State.holdAssignment
  split <;> exact .of_eq rfl

theorem State.readQueue_stores (s : State) (k : Nat) : OnlyStores s (s.readQueue k).1 := by
  unfold State.readQueue
  repeat' split
  all_goals exact .refl s

theorem State.manualCrossing_stores (s : State) (a : Gate × Tick) : OnlyStores s (s.manualCrossing a).1 := by
  unfold State.manualCrossing
  split
  case h_1 | h_2 => exact .refl s
  all_goals
    split
    · exact .refl s
    · split
      · exact .refl s
      · exact s.appendCrossing_stores _ _ _

/-! ## Arrivals and reports sent -/

theorem State.acceptFrame_lawful {s : State} (h : s.session.Lawful) (body : List Byte) :
    (s.acceptFrame body).session.Lawful := by
  unfold State.acceptFrame
  split
  · split
    · exact h.arrival _ _
    · exact h
  · exact h

theorem State.receive_lawful {s : State} (h : s.session.Lawful) (fuel : Nat) (cs : List Byte) :
    (s.receive fuel cs).session.Lawful :=
  State.receive_keeps (P := fun s => s.session.Lawful) (fun _ _ h => h) (fun _ body h => State.acceptFrame_lawful h body)
    fuel cs h

theorem State.lengthOutOfRange_lawful {s : State} (h : s.session.Lawful) (len : Byte) :
    (s.lengthOutOfRange len).session.Lawful := by
  unfold State.lengthOutOfRange
  split
  · split
    · exact State.receive_lawful (s := s.characterSeen.countBadFrame) h _ _
    · exact h
  all_goals exact h

theorem State.frameComplete_lawful {s : State} (h : s.session.Lawful) (c : Byte) :
    (s.frameComplete c).session.Lawful := by
  unfold State.frameComplete
  split
  · split
    · exact State.receive_lawful (s := s.characterSeen) h _ _
    · exact h
  all_goals exact h

theorem State.reportSent_lawful {s : State} (h : s.session.Lawful) : s.reportSent.session.Lawful := by
  unfold State.reportSent
  split
  · rw [State.setSession_session]
    split
    · next hadm => exact h.markInFlight _ hadm
    · exact h
  all_goals exact h

/-! ## Departures and resets -/

theorem State.departure_stores (s : State) (why : ReleaseCause) : OnlyStores s (s.departure why) := by
  unfold State.departure
  split
  · exact ⟨.single ⟨_, _, rfl⟩⟩
  · exact .refl s

theorem State.leaveSession_lawful {s : State} (h : s.session.Lawful) {next : SessionState} (hnext : next ≠ .opened)
    (why : ReleaseCause) : (s.leaveSession next why).session.Lawful := by
  have hleft := h.leave hnext
  unfold State.leaveSession
  split
  · apply (State.departure_stores _ why).lawful
    exact hleft
  · exact hleft

/-- A departure leaves nothing of the go-back before it: it recalls the reports and sets the count and the timer itself
(R153, R155). -/
theorem State.leaveSession_goBack (s : State) (n : Nat) (next : SessionState) (why : ReleaseCause) :
    (s.setSession { s.session with
      reports := recallReports s.session.reports, retryCount := n, retryTimer := none }).leaveSession next why =
      s.leaveSession next why := by
  unfold State.leaveSession
  simp only [State.setSession_session, recallReports_idem]
  rfl

theorem State.partReset_lawful (s : State) : s.partReset.session.Lawful := Session.reset_lawful .request

theorem State.inert_lawful (s : State) : s.inert.session.Lawful :=
  Session.lawful_of_unsent nofun (Nat.zero_le _) (.nil 1) (by simp [State.inert, Session.reset])
    (by simp [State.inert, Session.reset]) zero_lt_retryLimit (fun _ => rfl) rfl (by simp [State.inert, Session.reset])

theorem State.breakWith_lawful {s : State} (h : s.session.Lawful) (hand : Option RequestEntry) (decided : Bool) :
    (s.breakWith hand decided).session.Lawful := by
  unfold State.breakWith
  split
  · exact State.partReset_lawful _
  · apply State.leaveSession_lawful (s := s.setLink _) _ (by decide : SessionState.closed ≠ .opened)
    exact h

theorem State.lineBreak_lawful {s : State} (h : s.session.Lawful) : s.lineBreak.session.Lawful := by
  have hmeet : s.meet.session.Lawful := h
  unfold State.lineBreak
  split
  · exact h
  · split
    · exact State.breakWith_lawful h _ _
    · split
      · exact State.breakWith_lawful hmeet _ _
      · exact State.breakWith_lawful hmeet _ _

theorem State.bufferReplySent_lawful {s : State} (h : s.session.Lawful) : s.bufferReplySent.session.Lawful := by
  unfold State.bufferReplySent
  split
  · split
    · split
      · exact s.partReset_lawful
      · exact h
    · exact h
  all_goals exact h

/-! ## The timers and the tick -/

theorem State.retryTimerExpiry_lawful {s : State} (h : s.session.Lawful) : s.retryTimerExpiry.session.Lawful := by
  unfold State.retryTimerExpiry
  split
  · next hdue =>
    dsimp only
    split
    · next hcount => exact h.goBack hdue.1 hcount
    · rw [State.enterSilent, State.leaveSession_goBack]
      exact State.leaveSession_lawful h (by decide) _
  · exact h

theorem State.keepaliveExpiry_lawful {s : State} (h : s.session.Lawful) : s.keepaliveExpiry.session.Lawful := by
  unfold State.keepaliveExpiry
  split
  · exact State.leaveSession_lawful h (by decide) _
  · exact h

theorem State.settle_lawful {s : State} (h : s.session.Lawful) : s.settle.session.Lawful := by
  have hdeadlines : OnlyStores s (Config.allGates.foldl State.settleGate s.clockLimit.haltEnd).examineDeadlines :=
    ((s.clockLimit_stores.trans (State.haltEnd_stores _)).trans
      (.foldl State.settleGate_stores _ _)).trans (State.examineDeadlines_change _).stores
  have htimers := State.keepaliveExpiry_lawful (State.retryTimerExpiry_lawful (hdeadlines.lawful h))
  unfold State.settle
  exact (State.settleGap_stores _).lawful htimers

theorem State.tick_stores (s : State) (levels : Byte) : OnlyStores s (s.tick levels) := .of_eq rfl

/-! ## Requests -/

/-- A property that no change of the Link Controller breaks, nor an owner's act on the arguments of a request whose fields
are in range, is kept by the request's step. -/
theorem State.serve_keeps_parsed {α : Type} {P : State → Prop} {mine : RequestEntry → Bool}
    {parse : List Byte → Option α} {act : State → α → State × Response} (hlink : ∀ s l, P s → P (State.setLink s l))
    (hact : ∀ s p a, parse p = some a → P s → P (act s a).1) {s : State} (h : P s) : P (s.serve mine parse act) := by
  unfold State.serve
  split
  · split
    · split
      · exact hlink _ _ h
      · next hp => exact hact _ _ _ hp (hlink _ _ h)
    · exact h
  · split
    · exact h
    · split
      · split
        · exact hlink _ _ (hlink _ _ h)
        · split
          · exact hlink _ _ (hlink _ _ h)
          · next hp => exact hlink _ _ (hact _ _ _ hp (hlink _ _ h))
      · exact h

theorem parseOpenSession_some {p : List Byte} {w k : Byte} {discard : Bool}
    (h : parseOpenSession p = some (w, k, discard)) : (1 ≤ w.toNat ∧ w.toNat ≤ 8) ∧ k.toNat ≤ 120 := by
  unfold parseOpenSession at h
  split at h
  · split at h
    · next hrange =>
      cases h
      exact ⟨⟨hrange.1, hrange.2.1⟩, hrange.2.2.1⟩
    · cases h
  · cases h

section Requests

variable {α : Type} {mine : RequestEntry → Bool} {parse : List Byte → Option α} {act : State → α → State × Response}
  {s : State}

theorem State.live_serve_lawful
    (hact : ∀ (s : State) p a, parse p = some a → s.session.Lawful → (act s a).1.session.Lawful) (h : s.session.Lawful) : (s.live (·.serve mine parse act)).session.Lawful :=
  State.live_keeps (P := fun s => s.session.Lawful)
    (State.serve_keeps_parsed (P := fun s => s.session.Lawful) (fun _ _ h => h) hact) h

theorem State.live_serve_stores (hact : ∀ s a, OnlyStores s (act s a).1) (h : s.session.Lawful) :
    (s.live (·.serve mine parse act)).session.Lawful :=
  State.live_serve_lawful (fun s _ a _ => (hact s a).lawful) h

end Requests

/-! ## Every command -/

theorem State.live_lawful {f : State → State} {s : State} (hf : s.session.Lawful → (f s).session.Lawful)
    (h : s.session.Lawful) : (s.live f).session.Lawful :=
  State.live_keeps (P := fun s => s.session.Lawful) hf h

/-- Every command is answered with a next state, and keeps the laws of report delivery. -/
theorem exec_keeps_deliveryLaws (c : Instr) {s : State} (h : s.session.Lawful) :
    ∃ t, exec c s = .next t ∧ t.session.Lawful := by
  cases c with
  | rstnLow =>
    exact ⟨_, rfl, s.inert_lawful⟩
  | externalReset => exact ⟨_, rfl, Session.reset_lawful .external⟩
  | leadingEdge g => exact ⟨_, rfl, State.live_lawful (s.leadingEdge_stores g).lawful h⟩
  | shortPulse g => exact ⟨_, rfl, State.live_lawful (s.shortPulse_stores g).lawful h⟩
  | acceptance g => exact ⟨_, rfl, State.live_lawful (s.acceptance_stores g).lawful h⟩
  | edgeInHoldoff g => exact ⟨_, rfl, State.live_lawful (s.edgeInHoldoff_stores g).lawful h⟩
  | holdoffEnd g => exact ⟨_, rfl, State.live_lawful (s.holdoffEnd_stores g).lawful h⟩
  | blockedInputInactive g => exact ⟨_, rfl, State.live_lawful (s.blockedInputInactive_stores g).lawful h⟩
  | gateAlarmBlocked g => exact ⟨_, rfl, State.live_lawful (s.gateAlarmBlocked_stores g).lawful h⟩
  | gateEnableSample g => exact ⟨_, rfl, State.live_lawful (s.gateEnableSample_stores g).lawful h⟩
  | haltEnd => exact ⟨_, rfl, State.live_lawful s.haltEnd_stores.lawful h⟩
  | clockLimit => exact ⟨_, rfl, State.live_lawful s.clockLimit_stores.lawful h⟩
  | take => exact ⟨_, rfl, State.live_lawful s.take_stores.lawful h⟩
  | deadlineExpiry => exact ⟨_, rfl, State.live_lawful s.examineDeadlines_change.stores.lawful h⟩
  | interCharacterGap => exact ⟨_, rfl, State.live_lawful s.interCharacterGap_stores.lawful h⟩
  | framingError => exact ⟨_, rfl, State.live_lawful s.framingError_stores.lawful h⟩
  | breakEnd => exact ⟨_, rfl, State.live_lawful s.breakEnd_stores.lawful h⟩
  | frameStart => exact ⟨_, rfl, State.live_lawful s.frameStart_stores.lawful h⟩
  | shortReplySent => exact ⟨_, rfl, State.live_lawful s.shortReplySent_stores.lawful h⟩
  | syncByteFound => exact ⟨_, rfl, State.live_lawful s.syncByteFound_stores.lawful h⟩
  | lengthAccepted len => exact ⟨_, rfl, State.live_lawful (s.lengthAccepted_stores len).lawful h⟩
  | bodyCharacter c => exact ⟨_, rfl, State.live_lawful (s.bodyCharacter_stores c).lawful h⟩
  | lengthOutOfRange len => exact ⟨_, rfl, State.live_lawful (State.lengthOutOfRange_lawful · len) h⟩
  | frameComplete c => exact ⟨_, rfl, State.live_lawful (State.frameComplete_lawful · c) h⟩
  | reportSent => exact ⟨_, rfl, State.live_lawful State.reportSent_lawful h⟩
  | lineBreak => exact ⟨_, rfl, State.live_lawful State.lineBreak_lawful h⟩
  | bufferReplySent => exact ⟨_, rfl, State.live_lawful State.bufferReplySent_lawful h⟩
  | retryTimerExpiry => exact ⟨_, rfl, State.live_lawful State.retryTimerExpiry_lawful h⟩
  | keepaliveExpiry => exact ⟨_, rfl, State.live_lawful State.keepaliveExpiry_lawful h⟩
  | tickInstant levels =>
    exact ⟨_, rfl, State.live_lawful (fun h => (State.tick_stores _ levels).lawful (State.settle_lawful h)) h⟩
  | openSession =>
    refine ⟨_, rfl, State.live_serve_lawful (fun s _ a hp h => ?_) h⟩
    obtain ⟨hw, hk⟩ := parseOpenSession_some hp
    exact h.openWith s.instant a.2.2 hw hk
  | closeSession =>
    exact ⟨_, rfl, State.live_serve_lawful (fun _ _ _ _ h => State.leaveSession_lawful h (by decide) _) h⟩
  | unknownRequest | ping | status | resetPart | readClock | listRuns | readUnassigned =>
    exact ⟨_, rfl, State.live_serve_stores (fun s _ => .refl s) h⟩
  | setGateDisable => exact ⟨_, rfl, State.live_serve_stores (fun s _ => s.setGate_stores _ _) h⟩
  | setGateEnable => exact ⟨_, rfl, State.live_serve_stores State.enableGate_stores h⟩
  | getGate => exact ⟨_, rfl, State.live_serve_stores State.readGate_stores h⟩
  | armClock => exact ⟨_, rfl, State.live_serve_stores State.armClock_stores h⟩
  | disarmClock => exact ⟨_, rfl, State.live_serve_stores State.disarmClock_stores h⟩
  | startClock => exact ⟨_, rfl, State.live_serve_stores State.startClock_stores h⟩
  | haltClock => exact ⟨_, rfl, State.live_serve_stores State.haltClock_stores h⟩
  | resumeClock => exact ⟨_, rfl, State.live_serve_stores State.resumeClock_stores h⟩
  | clearClock => exact ⟨_, rfl, State.live_serve_stores State.clearClock_stores h⟩
  | setCourse => exact ⟨_, rfl, State.live_serve_stores State.setCourse_stores h⟩
  | getCourse => exact ⟨_, rfl, State.live_serve_stores State.getCourse_stores h⟩
  | stageRun => exact ⟨_, rfl, State.live_serve_stores State.stageRun_stores h⟩
  | withdrawRun => exact ⟨_, rfl, State.live_serve_stores State.withdrawRun_stores h⟩
  | startGroup => exact ⟨_, rfl, State.live_serve_stores State.startGroup_stores h⟩
  | readRun => exact ⟨_, rfl, State.live_serve_stores State.readRun_stores h⟩
  | releaseRun => exact ⟨_, rfl, State.live_serve_stores State.releaseRun_stores h⟩
  | holdAssignment => exact ⟨_, rfl, State.live_serve_stores State.holdAssignment_stores h⟩
  | releaseAssignment => exact ⟨_, rfl, State.live_serve_stores (fun _ _ => .of_eq rfl) h⟩
  | swapRuns => exact ⟨_, rfl, State.live_serve_stores State.swapRuns_stores h⟩
  | assignCrossing => exact ⟨_, rfl, State.live_serve_stores State.assignCrossing_stores h⟩
  | voidSplit => exact ⟨_, rfl, State.live_serve_stores State.voidSplit_stores h⟩
  | discardCrossing => exact ⟨_, rfl, State.live_serve_stores State.discardCrossing_stores h⟩
  | readQueue => exact ⟨_, rfl, State.live_serve_stores State.readQueue_stores h⟩
  | manualCrossing => exact ⟨_, rfl, State.live_serve_stores State.manualCrossing_stores h⟩

/-- Settles O53: the command in front keeps the laws, and an empty queue leaves the state as it is. -/
theorem deliveryLawsKept : Obligations.DeliveryLawsKept := by
  intro s t h hstep
  unfold step at hstep
  split at hstep
  · cases hstep
    exact h
  · next c rest _ =>
    obtain ⟨u, hu, hlaw⟩ := exec_keeps_deliveryLaws c (s := { s with pending := rest }) h
    cases hu.symm.trans hstep
    exact hlaw

end Sys2Proof.Machine
end

section
/-! PROOFS. PING, STATUS, OPEN SESSION and CLOSE SESSION (R142 to R145): what each request's fields parse to, what its act
does, and from the two the step that takes the request. -/

namespace Sys2Proof.Machine

section Passing

variable {α : Type} {s t : State} {code tag : Byte} {p : List Byte} {parse : List Byte → Option α}
  {act : State → α → State × Response} {a : α} {r : Response}

/-- A request in front that passes in every session state does what its owner's act does, and is answered with its
response (R136, check 3). -/
theorem State.live_serve_acts_passing (hact : ActsBeside act s) (hn : s.NextIs code tag p)
    (hf : payloadFits code p = some true) (hc : passesClosed code = true) (hp : parse p = some a)
    (ha : act s a = (t, r)) :
    s.live (·.serve (codeIs code) parse act) = t.setLink (s.link.answer r) := by
  simp only [State.live_serve hact hn (codeIs_self code tag p .waiting) hf (.inr hc), hp, ha]

/-- One whose payload does not parse is answered BAD_VALUE and changes nothing else (R136, check 4). -/
theorem State.live_serve_badValue_passing (hact : ActsBeside act s) (hn : s.NextIs code tag p)
    (hf : payloadFits code p = some true) (hc : passesClosed code = true) (hp : parse p = none) :
    s.live (·.serve (codeIs code) parse act) = s.setLink (s.link.answer (.refuse .badValue)) := by
  simp only [State.live_serve hact hn (codeIs_self code tag p .waiting) hf (.inr hc), hp]

end Passing

/-! ## PING and STATUS (R144, R145) -/

theorem exec_ping {s : State} {tag : Byte} (hn : s.NextIs 0x03 tag []) :
    exec .ping s = .next (s.setLink (s.link.answer .ok)) :=
  congrArg Host.Outcome.next (State.live_serve_acts_passing (ping_ignoresLink.beside s) hn rfl rfl rfl rfl)

theorem exec_status {s : State} {tag : Byte} (hn : s.NextIs 0x04 tag []) :
    exec .status s = .next (s.setLink (s.link.answer (.ok (statusPayload s)))) :=
  congrArg Host.Outcome.next (State.live_serve_acts_passing (status_actsBeside s) hn rfl rfl rfl rfl)

/-- The occupancy is the number of the slots that hold a run (R59). -/
theorem State.occupancy_eq (s : State) : s.occupancy = ((List.finRange 24).filterMap s.run).length := by
  rw [List.length_filterMap_eq_countP, List.countP_eq_length_filter]
  rfl

theorem Session.unsent_eq_countP (ss : Session) : ss.unsent = ss.reports.countP (·.delivery = .unsent) :=
  List.countP_eq_length_filter.symm

theorem courseNumber_eq (course : Option Course) :
    (course.map (·.number)).getD 0 = match course with | some c => c.number | none => 0 := by
  cases course <;> rfl

theorem clockCode_eq (c : ClockState) : c.mode.code =
    match c with | .idle => 0 | .armed _ => 1 | .running => 2 | .halting _ => 3 | .halted => 4 := by
  cases c <;> rfl

/-- Settles O39: PING's act changes nothing, and STATUS's payload is that of R145, count by count. -/
theorem pingAndStatusAnswer : Obligations.PingAndStatusAnswer := by
  refine ⟨fun s tag hn => exec_ping hn, fun s tag hn => ?_⟩
  rw [exec_status hn, statusPayload, State.occupancy_eq, Session.unsent_eq_countP, Session.inFlight_eq_countP,
    courseNumber_eq, clockCode_eq]
  rfl

/-! ## OPEN SESSION (R142) -/

theorem parseOpenSession_outOfRange {w k flags : Byte}
    (h : w = 0 ∨ 8 < w.toNat ∨ 120 < k.toNat ∨ 1 < flags.toNat) : parseOpenSession [w, k, flags] = none := by
  refine if_neg fun hrange => ?_
  have hw : w.toNat ≠ 0 := by omega
  obtain rfl | h := h
  · exact hw rfl
  · omega

theorem parseOpenSession_inRange {w k flags : Byte} (hw1 : 1 ≤ w.toNat) (hw8 : w.toNat ≤ 8) (hk : k.toNat ≤ 120)
    (hf : flags.toNat ≤ 1) : parseOpenSession [w, k, flags] = some (w, k, flags == 1) :=
  if_pos ⟨hw1, hw8, hk, hf⟩

/-- The reply names the oldest report kept, or says that there is none (R142). -/
theorem openPayload_eq {ss : Session} {oldest : List Byte}
    (h : ss.reports = [] ∧ oldest = [0, 0, 0] ∨ ∃ r rs, ss.reports = r :: rs ∧ oldest = 1 :: bytes16 r.sequence) :
    openPayload ss = oldest ++ bytes16 ss.nextSequence := by
  unfold openPayload
  obtain ⟨hreports, rfl⟩ | ⟨r, rs, hreports, rfl⟩ := h <;> rw [hreports] <;> rfl

/-- What OPEN SESSION keeps of the reports and the pending loss count, by its DISCARD flag (R142). -/
theorem Session.openWith_eq {ss : Session} {flags : Byte} {reports : List Report} {loss : Word}
    (h : flags = 1 ∧ reports = [] ∧ loss = 0
      ∨ flags = 0 ∧ reports = ss.reports.map (fun r => { r with delivery := .unsent }) ∧ loss = ss.pendingLoss)
    (now : Instant) (w k : Byte) : ss.openWith now w k (flags == 1) = {
      state := .opened
      window := w
      keepalive := k
      retryCount := 0
      retryTimer := none
      keepaliveTimer := if k = 0 then none else some (now + 10000 * k.toNat)
      reports := reports
      pendingLoss := loss
      nextSequence := ss.nextSequence } := by
  obtain ⟨rfl, rfl, rfl⟩ | ⟨rfl, rfl, rfl⟩ := h <;> rfl

theorem exec_openSession_badValue {s : State} {tag w k flags : Byte} (hn : s.NextIs 0x01 tag [w, k, flags])
    (h : w = 0 ∨ 8 < w.toNat ∨ 120 < k.toNat ∨ 1 < flags.toNat) :
    exec .openSession s = .next (s.setLink (s.link.answer (.refuse .badValue))) :=
  congrArg Host.Outcome.next
    (State.live_serve_badValue_passing (openSession_ignoresLink.beside s) hn rfl rfl (parseOpenSession_outOfRange h))

/-- The step of an OPEN SESSION whose fields are in range is its act, and the reply. -/
theorem exec_openSession {s t : State} {tag w k flags : Byte} {r : Response} (hn : s.NextIs 0x01 tag [w, k, flags])
    (hp : parseOpenSession [w, k, flags] = some (w, k, flags == 1)) (ha : s.openSession (w, k, flags == 1) = (t, r)) :
    exec .openSession s = .next (t.setLink (s.link.answer r)) :=
  congrArg Host.Outcome.next
    (State.live_serve_acts_passing (openSession_ignoresLink.beside s) hn rfl rfl hp ha)

/-! ## CLOSE SESSION (R143) -/

/-- A session that goes CLOSED or SILENT keeps its reports, unsent, and ends a hold, which stands in an OPEN session only
(R89, R90, R143, R155). -/
theorem State.leaveSession_eq {s : State} {ss : Session} {next : SessionState} (h : s.HoldLaw) (why : ReleaseCause)
    (hss : ss = { s.session with
      state := next, retryCount := 0, retryTimer := none, keepaliveTimer := none
      reports := s.session.reports.map fun r => { r with delivery := .unsent } }) :
    s.leaveSession next why = { s with
      tracker := { s.tracker with assignment := .taking }
      session := if s.tracker.assignment = .held then ss.store s.clock.count (.holdReleased why) else ss } := by
  subst hss
  cases ha : s.tracker.assignment with
  | held =>
    simp only [State.leaveSession, h ha, if_true, State.departure, State.setSession_tracker, ha]
    rfl
  | taking =>
    have hkept : { s.tracker with assignment := .taking } = s.tracker := by rw [← ha]
    simp only [State.leaveSession, State.departure, State.setSession_tracker, ha, hkept, ite_self]
    rfl

/-- The step of a CLOSE SESSION is the departure, and the reply. -/
theorem exec_closeSession {s : State} {tag : Byte} (hc : s.session.state ≠ .closed) (hn : s.NextIs 0x02 tag []) :
    exec .closeSession s = .next ((s.leaveSession .closed .sessionClosed).setLink (s.link.answer .ok)) :=
  congrArg Host.Outcome.next (State.live_serve_acts (closeSession_ignoresLink.beside s) hn rfl hc rfl rfl)

/-- Settles O52: OPEN SESSION by whether its fields are in range, and CLOSE SESSION by its departure. -/
theorem sessionsOpenAndClose : Obligations.SessionsOpenAndClose := by
  refine ⟨fun s tag w k flags hn => ⟨exec_openSession_badValue hn, ?_⟩, ?_⟩
  · intro reports loss oldest hw1 hw8 hk hdiscard holdest
    have hf : flags.toNat ≤ 1 := by obtain ⟨rfl, -⟩ | ⟨rfl, -⟩ := hdiscard <;> decide
    rw [exec_openSession hn (parseOpenSession_inRange hw1 hw8 hk hf) rfl, Session.openWith_eq hdiscard,
      openPayload_eq holdest]
    rfl
  · intro s ss tag hc hn hold hss
    rw [exec_closeSession hc hn, State.leaveSession_eq hold .sessionClosed hss]
    rfl

end Sys2Proof.Machine
end

section
/-! PROOFS. What must be checked of a property of the state for every command to keep it (`KeptByWork`, `Kept`): one condition
for each operation that the part's steps are made of. The commands themselves, the requests from take to reply, the
examination of received characters and the steps due at a tick instant are gone through here once. -/

namespace Sys2Proof.Machine

/-! ## The conditions -/

/-- The operations of every command but the resets and an accepted CLEAR CLOCK keep the property. -/
structure KeptByWork (P : State → Prop) : Prop where
  link : ∀ s l, P s → P (s.setLink l)
  meet : ∀ s, P s → P s.meet
  arrival : ∀ s now ack, P s → P (s.setSession (s.session.arrival now ack))
  markInFlight : ∀ s now q, P s → P (s.setSession (s.session.markInFlight now q))
  goBack : ∀ s n, P s → P (s.setSession { s.session with
    reports := recallReports s.session.reports, retryCount := n, retryTimer := none })
  leaveSession : ∀ s next why, P s → P (s.leaveSession next why)
  openSession : ∀ s a, P s → P (s.openSession a).1
  clockLimit : ∀ s, P s → P s.clockLimit
  haltEnd : ∀ s, P s → P s.haltEnd
  gateEnableSample : ∀ s g, P s → P (s.gateEnableSample g)
  blockedInputInactive : ∀ s g, P s → P (s.blockedInputInactive g)
  edgeInHoldoff : ∀ s g, P s → P (s.edgeInHoldoff g)
  holdoffEnd : ∀ s g, P s → P (s.holdoffEnd g)
  shortPulse : ∀ s g, P s → P (s.shortPulse g)
  acceptance : ∀ s g, P s → P (s.acceptance g)
  leadingEdge : ∀ s g, P s → P (s.leadingEdge g)
  gateAlarmBlocked : ∀ s g, P s → P (s.gateAlarmBlocked g)
  examineDeadlines : ∀ s, P s → P s.examineDeadlines
  take : ∀ s, P s → P s.take
  tickInstant : ∀ s levels, P s → P (s.settle.tick levels)
  disableGate : ∀ s p a, parseSetGate p = some a → enabledField p ≠ some 1 → P s → P (s.disableGate a).1
  enableGate : ∀ s p a, parseSetGate p = some a → enabledField p = some 1 → P s → P (s.enableGate a).1
  readGate : ∀ s a, P s → P (s.readGate a).1
  armClock : ∀ s g, P s → P (s.armClock g).1
  disarmClock : ∀ s u, P s → P (s.disarmClock u).1
  startClock : ∀ s preset, P s → P (s.startClock preset).1
  haltClock : ∀ s u, P s → P (s.haltClock u).1
  resumeClock : ∀ s u, P s → P (s.resumeClock u).1
  setCourse : ∀ s p c, parseSetCourse p = some c → P s → P (s.setCourse c).1
  stageRun : ∀ s n, P s → P (s.stageRun n).1
  withdrawRun : ∀ s n, P s → P (s.withdrawRun n).1
  startGroup : ∀ s t, P s → P (s.startGroup t).1
  releaseRun : ∀ s n, P s → P (s.releaseRun n).1
  holdAssignment : ∀ s u, P s → P (s.holdAssignment u).1
  releaseAssignment : ∀ s u, P s → P (s.releaseAssignment u).1
  swapRuns : ∀ s a, P s → P (s.swapRuns a).1
  assignCrossing : ∀ s a, P s → P (s.assignCrossing a).1
  voidSplit : ∀ s n, P s → P (s.voidSplit n).1
  discardCrossing : ∀ s id, P s → P (s.discardCrossing id).1
  manualCrossing : ∀ s a, P s → P (s.manualCrossing a).1

/-- The operations of every command keep the property. -/
structure Kept (P : State → Prop) : Prop extends KeptByWork P where
  clearClock : ∀ s u, P s → P (s.clearClock u).1
  inert : ∀ s, P s → P s.inert
  externalReset : ∀ s rate, P s → P (s.externalReset rate)
  partReset : ∀ s, P s → P s.partReset

/-! ## The steps due at a tick instant -/

theorem State.settleGap_keeps {P : State → Prop} (hlink : ∀ s l, P s → P (State.setLink s l)) {s : State} (h : P s) :
    P s.settleGap := by
  obtain ⟨r, dropped, -, hgap⟩ := s.settleGap_eq
  rw [hgap]
  exact hlink s _ h

/-- A property that each step due at a tick instant keeps is kept by taking them all. -/
theorem State.settle_keeps {P : State → Prop} (hlimit : ∀ s, P s → P (State.clockLimit s))
    (hhalt : ∀ s, P s → P (State.haltEnd s)) (hgate : ∀ s g, P s → P (State.settleGate s g))
    (hexamine : ∀ s, P s → P (State.examineDeadlines s)) (hretry : ∀ s, P s → P (State.retryTimerExpiry s))
    (hkeep : ∀ s, P s → P (State.keepaliveExpiry s)) (hlink : ∀ s l, P s → P (State.setLink s l)) {s : State}
    (h : P s) : P s.settle := by
  have hgates : ∀ (gs : List Gate) (s : State), P s → P (gs.foldl State.settleGate s) := by
    intro gs s h
    induction gs generalizing s with
    | nil => exact h
    | cons g gs ih =>
      rw [List.foldl_cons]
      exact ih _ (hgate s g h)
  have hdeadlines := hexamine _ (hgates Config.allGates _ (hhalt _ (hlimit s h)))
  unfold State.settle
  exact State.settleGap_keeps hlink (hkeep _ (hretry _ hdeadlines))

/-! ## Requests -/

/-- A property that no change of the Link Controller breaks, nor an owner's act on a request of its own kind whose fields
are in range, is kept by the request's step. -/
theorem State.serve_keeps_asked {α : Type} {P : State → Prop} {mine : RequestEntry → Bool}
    {parse : List Byte → Option α} {act : State → α → State × Response} (hlink : ∀ s l, P s → P (State.setLink s l))
    (hact : ∀ s r a, mine r = true → parse r.payload = some a → P s → P (act s a).1) {s : State} (h : P s) :
    P (s.serve mine parse act) := by
  unfold State.serve
  split
  · split
    · next hm =>
      split
      · exact hlink _ _ h
      · next hp => exact hact _ _ _ hm hp (hlink _ _ h)
    · exact h
  · split
    · exact h
    · split
      · next hm =>
        split
        · exact hlink _ _ (hlink _ _ h)
        · split
          · exact hlink _ _ (hlink _ _ h)
          · next hp => exact hlink _ _ (hact _ _ _ hm hp (hlink _ _ h))
      · exact h

theorem State.getCourse_fst (s : State) (u : Unit) : (s.getCourse u).1 = s := by
  unfold State.getCourse
  split <;> rfl

theorem State.readRun_fst (s : State) (n : Word) : (s.readRun n).1 = s := by
  unfold State.readRun
  split <;> rfl

theorem State.readQueue_fst (s : State) (k : Nat) : (s.readQueue k).1 = s := by
  unfold State.readQueue
  split
  · rfl
  · split <;> rfl

/-! ## Each command -/

namespace KeptByWork

variable {P : State → Prop}

theorem settleGate (h : KeptByWork P) (s : State) (g : Gate) (hs : P s) : P (s.settleGate g) :=
  h.gateAlarmBlocked _ g (h.leadingEdge _ g (h.acceptance _ g (h.shortPulse _ g (h.holdoffEnd _ g
    (h.edgeInHoldoff _ g (h.blockedInputInactive _ g (h.gateEnableSample s g hs)))))))

theorem retryTimerExpiry (h : KeptByWork P) (s : State) (hs : P s) : P s.retryTimerExpiry := by
  unfold State.retryTimerExpiry
  split
  · have hback := h.goBack s (s.session.retryCount + 1) hs
    dsimp only
    split
    · exact hback
    · exact h.leaveSession _ _ _ hback
  · exact hs

theorem keepaliveExpiry (h : KeptByWork P) (s : State) (hs : P s) : P s.keepaliveExpiry := by
  unfold State.keepaliveExpiry
  split
  · exact h.leaveSession s _ _ hs
  · exact hs

theorem acceptFrame (h : KeptByWork P) (s : State) (body : List Byte) (hs : P s) : P (s.acceptFrame body) := by
  unfold State.acceptFrame
  split
  · split
    · exact h.link _ _ (h.arrival s _ _ hs)
    · exact h.link _ _ hs
  · exact h.link _ _ hs

theorem receive (h : KeptByWork P) {s : State} (fuel : Nat) (cs : List Byte) (hs : P s) : P (s.receive fuel cs) :=
  State.receive_keeps h.link h.acceptFrame fuel cs hs

theorem dropPartial (h : KeptByWork P) (s : State) (hs : P s) : P s.dropPartial := by
  unfold State.dropPartial
  split
  · exact hs
  all_goals exact h.link _ _ (h.link _ _ hs)

theorem syncByteFound (h : KeptByWork P) (s : State) (hs : P s) : P s.syncByteFound := by
  have hfound : P (s.dropPartial.characterSeen.setReceiver .length) :=
    h.link _ _ (h.link _ _ (h.dropPartial s hs))
  unfold State.syncByteFound
  split
  case h_1 | h_2 =>
    split
    · exact hs
    · exact hfound
  all_goals exact hs

theorem lengthAccepted (h : KeptByWork P) (s : State) (len : Byte) (hs : P s) : P (s.lengthAccepted len) := by
  unfold State.lengthAccepted
  split
  · split
    · exact h.link _ _ (h.link _ _ hs)
    · exact hs
  all_goals exact hs

theorem lengthOutOfRange (h : KeptByWork P) (s : State) (len : Byte) (hs : P s) : P (s.lengthOutOfRange len) := by
  unfold State.lengthOutOfRange
  split
  · split
    · exact h.receive _ _ (h.link _ _ (h.link _ _ hs))
    · exact hs
  all_goals exact hs

theorem bodyCharacter (h : KeptByWork P) (s : State) (c : Byte) (hs : P s) : P (s.bodyCharacter c) := by
  unfold State.bodyCharacter
  split
  · split
    · exact h.link _ _ (h.link _ _ hs)
    · exact hs
  all_goals exact hs

theorem frameComplete (h : KeptByWork P) (s : State) (c : Byte) (hs : P s) : P (s.frameComplete c) := by
  unfold State.frameComplete
  split
  · split
    · exact h.receive _ _ (h.link _ _ hs)
    · exact hs
  all_goals exact hs

theorem interCharacterGap (h : KeptByWork P) (s : State) (hs : P s) : P s.interCharacterGap := by
  unfold State.interCharacterGap
  split
  · exact h.dropPartial s hs
  · exact hs

theorem framingError (h : KeptByWork P) (s : State) (hs : P s) : P s.framingError := by
  unfold State.framingError
  split
  · exact hs
  · exact h.dropPartial s hs

theorem breakEnd (h : KeptByWork P) (s : State) (hs : P s) : P s.breakEnd := by
  unfold State.breakEnd
  split
  · exact h.link _ _ hs
  · exact hs

/-- A link reset without a decided RESET PART is work of the Link Controller and the Session. -/
theorem breakWith (h : KeptByWork P) (s : State) (hand : Option RequestEntry) (hs : P s) : P (s.breakWith hand false) :=
  h.leaveSession _ _ _ (h.link _ _ (h.link _ _ hs))

theorem startReport (h : KeptByWork P) (s : State) (hs : P s) : P s.startReport := by
  unfold State.startReport
  split
  · exact h.link _ _ hs
  · exact hs

theorem startNext (h : KeptByWork P) (s : State) (hs : P s) : P s.startNext := by
  unfold State.startNext
  split
  · exact h.link _ _ hs
  · split
    · exact h.link _ _ (h.link _ _ hs)
    · exact h.startReport s hs

theorem frameStart (h : KeptByWork P) (s : State) (hs : P s) : P s.frameStart := by
  unfold State.frameStart
  split
  · split
    · split
      · exact h.startReport _ (h.meet s hs)
      · exact h.startNext _ (h.meet s hs)
    · exact h.startNext s hs
  all_goals exact hs

theorem shortReplySent (h : KeptByWork P) (s : State) (hs : P s) : P s.shortReplySent := by
  unfold State.shortReplySent
  split
  · exact h.link _ _ (h.link _ _ hs)
  all_goals exact hs

theorem reportSent (h : KeptByWork P) (s : State) (hs : P s) : P s.reportSent := by
  unfold State.reportSent
  split
  · split
    · exact h.markInFlight s.freeTransmitter s.instant _ (h.link s _ hs)
    · exact h.link s _ hs
  all_goals exact hs

/-- A request's step keeps the property when its owner's act does. -/
theorem request (h : KeptByWork P) {α : Type} {s : State} {mine : RequestEntry → Bool} {parse : List Byte → Option α}
    {act : State → α → State × Response} (hact : ∀ s a, P s → P (act s a).1) (hs : P s) :
    P (s.live (·.serve mine parse act)) :=
  State.live_keeps (State.serve_keeps h.link hact) hs

end KeptByWork

/-- The commands in which a reset, or an accepted CLEAR CLOCK, may come. -/
def isResetting : Instr → Bool
  | .rstnLow | .externalReset .. | .lineBreak | .bufferReplySent | .clearClock => true
  | _ => false

/-- Every other command is answered with a next state, and keeps the property. -/
theorem KeptByWork.exec {P : State → Prop} (h : KeptByWork P) {c : Instr} (hc : isResetting c = false) {s : State}
    (hs : P s) : ∃ t, exec c s = .next t ∧ P t := by
  cases c with
  | rstnLow | externalReset | lineBreak | bufferReplySent | clearClock => cases hc
  | leadingEdge g => exact ⟨_, rfl, State.live_keeps (h.leadingEdge s g) hs⟩
  | shortPulse g => exact ⟨_, rfl, State.live_keeps (h.shortPulse s g) hs⟩
  | acceptance g => exact ⟨_, rfl, State.live_keeps (h.acceptance s g) hs⟩
  | edgeInHoldoff g => exact ⟨_, rfl, State.live_keeps (h.edgeInHoldoff s g) hs⟩
  | holdoffEnd g => exact ⟨_, rfl, State.live_keeps (h.holdoffEnd s g) hs⟩
  | blockedInputInactive g => exact ⟨_, rfl, State.live_keeps (h.blockedInputInactive s g) hs⟩
  | gateAlarmBlocked g => exact ⟨_, rfl, State.live_keeps (h.gateAlarmBlocked s g) hs⟩
  | gateEnableSample g => exact ⟨_, rfl, State.live_keeps (h.gateEnableSample s g) hs⟩
  | haltEnd => exact ⟨_, rfl, State.live_keeps (h.haltEnd s) hs⟩
  | clockLimit => exact ⟨_, rfl, State.live_keeps (h.clockLimit s) hs⟩
  | take => exact ⟨_, rfl, State.live_keeps (h.take s) hs⟩
  | deadlineExpiry => exact ⟨_, rfl, State.live_keeps (h.examineDeadlines s) hs⟩
  | lengthOutOfRange len => exact ⟨_, rfl, State.live_keeps (h.lengthOutOfRange s len) hs⟩
  | frameComplete c => exact ⟨_, rfl, State.live_keeps (h.frameComplete s c) hs⟩
  | interCharacterGap => exact ⟨_, rfl, State.live_keeps (h.interCharacterGap s) hs⟩
  | framingError => exact ⟨_, rfl, State.live_keeps (h.framingError s) hs⟩
  | breakEnd => exact ⟨_, rfl, State.live_keeps (h.breakEnd s) hs⟩
  | frameStart => exact ⟨_, rfl, State.live_keeps (h.frameStart s) hs⟩
  | shortReplySent => exact ⟨_, rfl, State.live_keeps (h.shortReplySent s) hs⟩
  | reportSent => exact ⟨_, rfl, State.live_keeps (h.reportSent s) hs⟩
  | retryTimerExpiry => exact ⟨_, rfl, State.live_keeps (h.retryTimerExpiry s) hs⟩
  | keepaliveExpiry => exact ⟨_, rfl, State.live_keeps (h.keepaliveExpiry s) hs⟩
  | tickInstant levels => exact ⟨_, rfl, State.live_keeps (h.tickInstant s levels) hs⟩
  | syncByteFound => exact ⟨_, rfl, State.live_keeps (h.syncByteFound s) hs⟩
  | lengthAccepted len => exact ⟨_, rfl, State.live_keeps (h.lengthAccepted s len) hs⟩
  | bodyCharacter c => exact ⟨_, rfl, State.live_keeps (h.bodyCharacter s c) hs⟩
  | unknownRequest | ping | status | resetPart | readClock | listRuns | readUnassigned =>
    exact ⟨_, rfl, h.request (fun _ _ hs => hs) hs⟩
  | getCourse => exact ⟨_, rfl, h.request (fun s u hs => (State.getCourse_fst s u).symm ▸ hs) hs⟩
  | readRun => exact ⟨_, rfl, h.request (fun s n hs => (State.readRun_fst s n).symm ▸ hs) hs⟩
  | readQueue => exact ⟨_, rfl, h.request (fun s k hs => (State.readQueue_fst s k).symm ▸ hs) hs⟩
  | openSession => exact ⟨_, rfl, h.request h.openSession hs⟩
  | closeSession => exact ⟨_, rfl, h.request (fun s _ => h.leaveSession s _ _) hs⟩
  | setGateDisable =>
    exact ⟨_, rfl, State.live_keeps
      (State.serve_keeps_asked (hlink := h.link) fun s r a hm hp =>
        h.disableGate s r.payload a hp (by simpa using (Bool.and_eq_true_iff.mp hm).2)) hs⟩
  | setGateEnable =>
    exact ⟨_, rfl, State.live_keeps
      (State.serve_keeps_asked (hlink := h.link) fun s r a hm hp =>
        h.enableGate s r.payload a hp (by simpa using (Bool.and_eq_true_iff.mp hm).2)) hs⟩
  | getGate => exact ⟨_, rfl, h.request h.readGate hs⟩
  | armClock => exact ⟨_, rfl, h.request h.armClock hs⟩
  | disarmClock => exact ⟨_, rfl, h.request h.disarmClock hs⟩
  | startClock => exact ⟨_, rfl, h.request h.startClock hs⟩
  | haltClock => exact ⟨_, rfl, h.request h.haltClock hs⟩
  | resumeClock => exact ⟨_, rfl, h.request h.resumeClock hs⟩
  | setCourse =>
    exact ⟨_, rfl, State.live_keeps
      (State.serve_keeps_asked (hlink := h.link) fun s r a _ hp => h.setCourse s r.payload a hp) hs⟩
  | stageRun => exact ⟨_, rfl, h.request h.stageRun hs⟩
  | withdrawRun => exact ⟨_, rfl, h.request h.withdrawRun hs⟩
  | startGroup => exact ⟨_, rfl, h.request h.startGroup hs⟩
  | releaseRun => exact ⟨_, rfl, h.request h.releaseRun hs⟩
  | holdAssignment => exact ⟨_, rfl, h.request h.holdAssignment hs⟩
  | releaseAssignment => exact ⟨_, rfl, h.request h.releaseAssignment hs⟩
  | swapRuns => exact ⟨_, rfl, h.request h.swapRuns hs⟩
  | assignCrossing => exact ⟨_, rfl, h.request h.assignCrossing hs⟩
  | voidSplit => exact ⟨_, rfl, h.request h.voidSplit hs⟩
  | discardCrossing => exact ⟨_, rfl, h.request h.discardCrossing hs⟩
  | manualCrossing => exact ⟨_, rfl, h.request h.manualCrossing hs⟩

namespace Kept

variable {P : State → Prop}

theorem breakWith (h : Kept P) (s : State) (hand : Option RequestEntry) (decided : Bool) (hs : P s) :
    P (s.breakWith hand decided) := by
  have hleft := h.toKeptByWork.breakWith s hand hs
  unfold State.breakWith
  split
  · exact h.partReset _ hleft
  · exact hleft

theorem lineBreak (h : Kept P) (s : State) (hs : P s) : P s.lineBreak := by
  unfold State.lineBreak
  split
  · exact hs
  · split
    · exact h.breakWith s _ _ hs
    · split
      · exact h.breakWith _ _ _ (h.meet s hs)
      · exact h.breakWith _ _ _ (h.meet s hs)

theorem bufferReplySent (h : Kept P) (s : State) (hs : P s) : P s.bufferReplySent := by
  unfold State.bufferReplySent
  split
  · split
    · split
      · exact h.partReset s hs
      · exact h.link _ _ (h.link _ _ hs)
    · exact h.link _ _ hs
  all_goals exact hs

/-- Every command is answered with a next state, and keeps the property. -/
theorem exec (h : Kept P) (c : Instr) {s : State} (hs : P s) : ∃ t, exec c s = .next t ∧ P t := by
  cases hc : isResetting c with
  | false => exact h.toKeptByWork.exec hc hs
  | true =>
    cases c with
    | rstnLow => exact ⟨_, rfl, h.inert s hs⟩
    | externalReset => exact ⟨_, rfl, h.externalReset s _ hs⟩
    | lineBreak => exact ⟨_, rfl, State.live_keeps (h.lineBreak s) hs⟩
    | bufferReplySent => exact ⟨_, rfl, State.live_keeps (h.bufferReplySent s) hs⟩
    | clearClock => exact ⟨_, rfl, h.request h.clearClock hs⟩
    | _ => cases hc

/-- A step keeps what every command keeps and what does not depend on the waiting commands. -/
theorem step (h : Kept P) (hpending : ∀ (s : State) rest, P s → P { s with pending := rest }) {s t : State} (hs : P s)
    (hstep : step s = .next t) : P t := by
  unfold Machine.step at hstep
  split at hstep
  · cases hstep
    exact hs
  · next c rest _ =>
    obtain ⟨u, hu, hkept⟩ := h.exec c (hpending s rest hs)
    cases hu.symm.trans hstep
    exact hkept

end Kept

end Sys2Proof.Machine
end

section
/-! PROOFS. Two ways to check `Kept` at once. A property that reads only the Race Clock, the Gate Units, the Crossing Queue and
the waiting commands needs the steps of these blocks only (`KeptByWork.of_race`); one that reads only the Course Tracker, but
for the assignment state, needs the steps of the Course Tracker only (`Kept.of_tracker`). -/

namespace Sys2Proof.Machine

/-! ## Changes that leave the race blocks -/

/-- The Race Clock, the Gate Units, the Crossing Queue and the waiting commands of `t` are those of `s`. -/
structure SameRace (s t : State) : Prop where
  clock : t.clock = s.clock
  gates : t.gates = s.gates
  crossings : t.crossings = s.crossings
  pending : t.pending = s.pending

theorem SameRace.refl (s : State) : SameRace s s := ⟨rfl, rfl, rfl, rfl⟩

theorem SameRace.trans {s t u : State} (h : SameRace s t) (k : SameRace t u) : SameRace s u :=
  ⟨k.clock.trans h.clock, k.gates.trans h.gates, k.crossings.trans h.crossings, k.pending.trans h.pending⟩

theorem SameRace.gate {s t : State} (h : SameRace s t) (g : Gate) : t.gate g = s.gate g := by
  rw [State.gate, State.gate, h.gates]

theorem TrackerChange.sameRace {s t : State} (h : TrackerChange s t) : SameRace s t :=
  ⟨h.clock, h.gates, h.crossings, h.pending⟩

theorem State.leaveSession_sameRace (s : State) (next : SessionState) (why : ReleaseCause) :
    SameRace s (s.leaveSession next why) := by
  unfold State.leaveSession State.departure
  dsimp only
  split
  · split <;> exact ⟨rfl, rfl, rfl, rfl⟩
  · exact ⟨rfl, rfl, rfl, rfl⟩

theorem State.retryTimerExpiry_sameRace (s : State) : SameRace s s.retryTimerExpiry := by
  unfold State.retryTimerExpiry
  split
  · dsimp only
    split
    · exact ⟨rfl, rfl, rfl, rfl⟩
    · rw [State.enterSilent, State.leaveSession_goBack]
      exact s.leaveSession_sameRace _ _
  · exact .refl s

theorem State.keepaliveExpiry_sameRace (s : State) : SameRace s s.keepaliveExpiry := by
  unfold State.keepaliveExpiry
  split
  · exact s.leaveSession_sameRace _ _
  · exact .refl s

theorem State.settleGap_sameRace (s : State) : SameRace s s.settleGap := by
  obtain ⟨r, dropped, -, h⟩ := s.settleGap_eq
  rw [h]
  exact ⟨rfl, rfl, rfl, rfl⟩

/-! ## The Course Tracker's requests -/

theorem State.setCourse_sameRace (s : State) (c : Course) : SameRace s (s.setCourse c).1 := by
  unfold State.setCourse
  repeat' split
  all_goals exact ⟨rfl, rfl, rfl, rfl⟩

theorem State.stageRun_change (s : State) (n : Word) : TrackerChange s (s.stageRun n).1 := by
  unfold State.stageRun
  repeat' split
  case h_2 => exact (s.setRun_change _ _).trans (State.setQueues_change _ _)
  all_goals exact .refl s

theorem State.withdrawRun_change (s : State) (n : Word) : TrackerChange s (s.withdrawRun n).1 := by
  unfold State.withdrawRun
  repeat' split
  case isTrue => exact ((s.setQueues_change _).trans (State.setRun_change _ _ _)).trans (State.report_change _ _)
  all_goals exact .refl s

theorem State.releaseRun_change (s : State) (n : Word) : TrackerChange s (s.releaseRun n).1 := by
  unfold State.releaseRun
  repeat' split
  case isFalse => exact s.setRun_change _ _
  all_goals exact .refl s

theorem State.startGroup_change (s : State) (t : Option Tick) : TrackerChange s (s.startGroup t).1 := by
  unfold State.startGroup
  repeat' split
  case isFalse => exact s.groupStart_change _
  all_goals exact .refl s

theorem State.swapRuns_change (s : State) (a : Nat × Word × Word) : TrackerChange s (s.swapRuns a).1 := by
  have hmark := fun qs i j => ((s.setQueues_change qs).trans (State.markCorrected_change _ i)).trans
    (State.markCorrected_change _ j)
  unfold State.swapRuns
  repeat' split
  case h_1.isTrue => exact hmark _ _ _
  all_goals exact .refl s

theorem State.assignCrossing_change (s : State) (a : Tick × Word) : TrackerChange s (s.assignCrossing a).1 := by
  unfold State.assignCrossing
  split
  · exact .refl s
  · next e _ =>
    split
    · exact .refl s
    · next i r _ =>
      split
      · exact .refl s
      · have h := ((s.setUnassigned_change _).trans (State.advance_change (s.removeEntry a.1) i e.crossing true)).trans
          (State.markCorrected_change _ i)
        dsimp only
        split
        · exact h.trans (State.examineDeadlines_change _)
        · exact h

theorem State.voidSplit_change (s : State) (n : Word) : TrackerChange s (s.voidSplit n).1 := by
  unfold State.voidSplit
  repeat' split
  case h_3 => exact s.voidLast_change _ _ _ _
  all_goals exact .refl s

theorem State.discardCrossing_change (s : State) (id : Tick) : TrackerChange s (s.discardCrossing id).1 := by
  unfold State.discardCrossing
  split
  · exact .refl s
  · exact s.setUnassigned_change _

theorem State.holdAssignment_sameRace (s : State) (u : Unit) : SameRace s (s.holdAssignment u).1 := by
  unfold State.holdAssignment
  split <;> exact ⟨rfl, rfl, rfl, rfl⟩

/-- What must be checked of a property of the race blocks for all work to keep it: the steps of the Race Clock, the Gate
Units and the Crossing Queue. -/
structure RaceKept (P : State → Prop) : Prop where
  sameRace : ∀ s t, SameRace s t → P s → P t
  clockLimit : ∀ s, P s → P s.clockLimit
  haltEnd : ∀ s, P s → P s.haltEnd
  gateEnableSample : ∀ s g, P s → P (s.gateEnableSample g)
  blockedInputInactive : ∀ s g, P s → P (s.blockedInputInactive g)
  edgeInHoldoff : ∀ s g, P s → P (s.edgeInHoldoff g)
  holdoffEnd : ∀ s g, P s → P (s.holdoffEnd g)
  shortPulse : ∀ s g, P s → P (s.shortPulse g)
  acceptance : ∀ s g, P s → P (s.acceptance g)
  leadingEdge : ∀ s g, P s → P (s.leadingEdge g)
  gateAlarmBlocked : ∀ s g, P s → P (s.gateAlarmBlocked g)
  taken : ∀ s c rest, s.crossings.records = c :: rest → P s →
    P { s with crossings := { s.crossings with records := rest } }
  tickInstant : ∀ s levels, P s → P (s.settle.tick levels)
  disableGate : ∀ s p a, parseSetGate p = some a → enabledField p ≠ some 1 → P s → P (s.disableGate a).1
  enableGate : ∀ s p a, parseSetGate p = some a → enabledField p = some 1 → P s → P (s.enableGate a).1
  readGate : ∀ s a, P s → P (s.readGate a).1
  armClock : ∀ s g, P s → P (s.armClock g).1
  disarmClock : ∀ s u, P s → P (s.disarmClock u).1
  startClock : ∀ s preset, P s → P (s.startClock preset).1
  haltClock : ∀ s u, P s → P (s.haltClock u).1
  resumeClock : ∀ s u, P s → P (s.resumeClock u).1
  manualCrossing : ∀ s a, P s → P (s.manualCrossing a).1

/-- A take removes the head crossing; what the Course Tracker does with it is no concern of the race blocks (R42). -/
theorem RaceKept.take {P : State → Prop} (h : RaceKept P) (s : State) (hs : P s) : P s.take := by
  unfold State.take
  split
  · next c rest _ hc =>
    exact h.sameRace _ _ ((State.place_change _ c).trans (State.examineDeadlines_change _)).sameRace
      (h.taken s c rest hc hs)
  all_goals exact hs

theorem KeptByWork.of_race {P : State → Prop} (h : RaceKept P) : KeptByWork P where
  link s _ := h.sameRace s _ ⟨rfl, rfl, rfl, rfl⟩
  meet s := h.sameRace s _ ⟨rfl, rfl, rfl, rfl⟩
  arrival s _ _ := h.sameRace s _ ⟨rfl, rfl, rfl, rfl⟩
  markInFlight s _ _ := h.sameRace s _ ⟨rfl, rfl, rfl, rfl⟩
  goBack s _ := h.sameRace s _ ⟨rfl, rfl, rfl, rfl⟩
  leaveSession s next why := h.sameRace _ _ (s.leaveSession_sameRace next why)
  openSession s _ := h.sameRace s _ ⟨rfl, rfl, rfl, rfl⟩
  clockLimit := h.clockLimit
  haltEnd := h.haltEnd
  gateEnableSample := h.gateEnableSample
  blockedInputInactive := h.blockedInputInactive
  edgeInHoldoff := h.edgeInHoldoff
  holdoffEnd := h.holdoffEnd
  shortPulse := h.shortPulse
  acceptance := h.acceptance
  leadingEdge := h.leadingEdge
  gateAlarmBlocked := h.gateAlarmBlocked
  examineDeadlines s := h.sameRace _ _ s.examineDeadlines_change.sameRace
  take := h.take
  tickInstant := h.tickInstant
  disableGate := h.disableGate
  enableGate := h.enableGate
  readGate := h.readGate
  armClock := h.armClock
  disarmClock := h.disarmClock
  startClock := h.startClock
  haltClock := h.haltClock
  resumeClock := h.resumeClock
  setCourse s _ c _ := h.sameRace _ _ (s.setCourse_sameRace c)
  stageRun s n := h.sameRace _ _ (s.stageRun_change n).sameRace
  withdrawRun s n := h.sameRace _ _ (s.withdrawRun_change n).sameRace
  startGroup s t := h.sameRace _ _ (s.startGroup_change t).sameRace
  releaseRun s n := h.sameRace _ _ (s.releaseRun_change n).sameRace
  holdAssignment s u := h.sameRace _ _ (s.holdAssignment_sameRace u)
  releaseAssignment s _ := h.sameRace s _ ⟨rfl, rfl, rfl, rfl⟩
  swapRuns s a := h.sameRace _ _ (s.swapRuns_change a).sameRace
  assignCrossing s a := h.sameRace _ _ (s.assignCrossing_change a).sameRace
  voidSplit s n := h.sameRace _ _ (s.voidSplit_change n).sameRace
  discardCrossing s id := h.sameRace _ _ (s.discardCrossing_change id).sameRace
  manualCrossing := h.manualCrossing

/-! ## Changes that leave the Course Tracker -/

/-- The course, the Run Table, the expectation queues and the Unassigned List of `t` are those of `s`. -/
structure SameTracker (s t : State) : Prop where
  course : t.tracker.course = s.tracker.course
  queues : t.tracker.queues = s.tracker.queues
  runs : t.tracker.runs = s.tracker.runs
  unassigned : t.tracker.unassigned = s.tracker.unassigned

theorem SameTracker.refl (s : State) : SameTracker s s := ⟨rfl, rfl, rfl, rfl⟩

theorem SameTracker.trans {s t u : State} (h : SameTracker s t) (k : SameTracker t u) : SameTracker s u :=
  ⟨k.course.trans h.course, k.queues.trans h.queues, k.runs.trans h.runs, k.unassigned.trans h.unassigned⟩

theorem SameTracker.of_eq {s t : State} (h : t.tracker = s.tracker) : SameTracker s t := by
  constructor <;> rw [h]

theorem SameTracker.run {s t : State} (h : SameTracker s t) (i : Slot) : t.run i = s.run i := by
  rw [State.run, State.run, h.runs]

theorem SameTracker.queue {s t : State} (h : SameTracker s t) (k : Nat) : t.queue k = s.queue k := by
  rw [State.queue, State.queue, h.queues]

theorem State.leaveSession_sameTracker (s : State) (next : SessionState) (why : ReleaseCause) :
    SameTracker s (s.leaveSession next why) := by
  unfold State.leaveSession State.departure
  dsimp only
  split
  · split <;> exact ⟨rfl, rfl, rfl, rfl⟩
  · exact ⟨rfl, rfl, rfl, rfl⟩

theorem State.holdAssignment_sameTracker (s : State) (u : Unit) : SameTracker s (s.holdAssignment u).1 := by
  unfold State.holdAssignment
  split <;> exact ⟨rfl, rfl, rfl, rfl⟩

theorem State.clockLimit_tracker (s : State) : s.clockLimit.tracker = s.tracker := by
  unfold State.clockLimit
  split <;> rfl

theorem State.haltEnd_tracker (s : State) : s.haltEnd.tracker = s.tracker := by
  unfold State.haltEnd
  repeat' split
  all_goals rfl

theorem State.enterGateIdle_tracker (s : State) (g : Gate) : (s.enterGateIdle g).tracker = s.tracker := by
  rw [State.enterGateIdle_eq]

theorem State.gateEnableSample_tracker (s : State) (g : Gate) : (s.gateEnableSample g).tracker = s.tracker := by
  unfold State.gateEnableSample
  repeat' split
  case isFalse => exact s.enterGateIdle_tracker g
  all_goals rfl

theorem State.blockedInputInactive_tracker (s : State) (g : Gate) :
    (s.blockedInputInactive g).tracker = s.tracker := by
  unfold State.blockedInputInactive
  repeat' split
  case isFalse => exact s.enterGateIdle_tracker g
  all_goals rfl

theorem State.edgeInHoldoff_tracker (s : State) (g : Gate) : (s.edgeInHoldoff g).tracker = s.tracker := by
  unfold State.edgeInHoldoff
  repeat' split
  all_goals rfl

theorem State.holdoffEnd_tracker (s : State) (g : Gate) : (s.holdoffEnd g).tracker = s.tracker := by
  unfold State.holdoffEnd
  split
  · split
    · split
      · rfl
      · exact s.enterGateIdle_tracker g
    · rfl
  all_goals rfl

theorem State.shortPulse_tracker (s : State) (g : Gate) : (s.shortPulse g).tracker = s.tracker := by
  unfold State.shortPulse
  repeat' split
  all_goals rfl

theorem State.leadingEdge_tracker (s : State) (g : Gate) : (s.leadingEdge g).tracker = s.tracker := by
  unfold State.leadingEdge
  repeat' split
  all_goals rfl

theorem State.gateAlarmBlocked_tracker (s : State) (g : Gate) : (s.gateAlarmBlocked g).tracker = s.tracker := by
  unfold State.gateAlarmBlocked
  repeat' split
  all_goals rfl

theorem State.offerCrossing_tracker (s : State) (g : Gate) (t : Tick) :
    (s.offerCrossing g t).tracker = s.tracker := by
  by_cases h : s.crossings.records.length < 32
  · rw [State.offerCrossing_room g t h]
  · rw [State.offerCrossing_full g t (Nat.not_lt.mp h)]

theorem State.enableGate_tracker (s : State) (a : Gate × GateConfig) : (s.enableGate a).1.tracker = s.tracker := by
  unfold State.enableGate
  repeat' split
  all_goals rfl

theorem State.readGate_tracker (s : State) (a : Gate × Bool) : (s.readGate a).1.tracker = s.tracker := by
  unfold State.readGate
  split <;> rfl

theorem State.armClock_tracker (s : State) (g : Gate) : (s.armClock g).1.tracker = s.tracker := by
  unfold State.armClock
  repeat' split
  all_goals rfl

theorem State.disarmClock_tracker (s : State) (u : Unit) : (s.disarmClock u).1.tracker = s.tracker := by
  unfold State.disarmClock
  split <;> rfl

theorem State.haltClock_tracker (s : State) (u : Unit) : (s.haltClock u).1.tracker = s.tracker := by
  unfold State.haltClock
  split <;> rfl

theorem State.resumeClock_tracker (s : State) (u : Unit) : (s.resumeClock u).1.tracker = s.tracker := by
  unfold State.resumeClock
  repeat' split
  all_goals rfl

theorem State.manualCrossing_tracker (s : State) (a : Gate × Tick) :
    (s.manualCrossing a).1.tracker = s.tracker := by
  unfold State.manualCrossing
  simp only [State.appendCrossing_eq]
  repeat' split
  all_goals rfl

theorem State.tick_tracker (s : State) (levels : Byte) : (s.tick levels).tracker = s.tracker := rfl

/-- An accepted CLEAR CLOCK empties the Unassigned List (R14). -/
theorem State.clear_tracker (s : State) : s.clear.1.tracker = { s.tracker with unassigned := [] } := by
  unfold State.clear
  split <;> rfl

/-- What must be checked of a property of the Course Tracker for every command to keep it: the steps of the Course
Tracker. -/
structure TrackerKept (P : State → Prop) : Prop where
  sameTracker : ∀ s t, SameTracker s t → P s → P t
  reset : ∀ s, s.tracker = CourseTracker.reset → P s
  clockStartEvent : ∀ s t, P s → P (s.clockStartEvent t)
  examineDeadlines : ∀ s, P s → P s.examineDeadlines
  place : ∀ s c, P s → P (s.place c)
  cleared : ∀ s, P s → P (s.setUnassigned [])
  setCourse : ∀ s p c, parseSetCourse p = some c → P s → P (s.setCourse c).1
  stageRun : ∀ s n, P s → P (s.stageRun n).1
  withdrawRun : ∀ s n, P s → P (s.withdrawRun n).1
  startGroup : ∀ s t, P s → P (s.startGroup t).1
  releaseRun : ∀ s n, P s → P (s.releaseRun n).1
  swapRuns : ∀ s a, P s → P (s.swapRuns a).1
  assignCrossing : ∀ s a, P s → P (s.assignCrossing a).1
  voidSplit : ∀ s n, P s → P (s.voidSplit n).1
  discardCrossing : ∀ s id, P s → P (s.discardCrossing id).1

namespace TrackerKept

variable {P : State → Prop}

theorem same (h : TrackerKept P) (s : State) {t : State} (ht : t.tracker = s.tracker) (hs : P s) : P t :=
  h.sameTracker s t (.of_eq ht) hs

theorem take (h : TrackerKept P) (s : State) (hs : P s) : P s.take := by
  unfold State.take
  split
  · next c rest _ _ =>
    exact h.examineDeadlines _ (h.place _ c
      (h.same s rfl hs))
  all_goals exact hs

/-- An acceptance reaches the Course Tracker only by the clock-start event of a triggered start (R9). -/
theorem settleAcceptance (h : TrackerKept P) (s : State) (g : Gate) (t : Tick) (stale : Bool) (hs : P s) :
    P (s.settleAcceptance g t stale) := by
  unfold State.settleAcceptance
  split
  · exact h.same s rfl hs
  · split
    · exact h.same s (s.offerCrossing_tracker _ _) hs
    · exact h.same s (s.offerCrossing_tracker _ _) hs
    · split
      · exact h.same _ (State.offerCrossing_tracker _ _ _) (h.clockStartEvent _ _ (h.same s rfl hs))
      · exact h.same s rfl hs
    all_goals exact h.same s rfl hs

theorem acceptance (h : TrackerKept P) (s : State) (g : Gate) (hs : P s) : P (s.acceptance g) := by
  unfold State.acceptance
  split
  · split
    · exact h.settleAcceptance _ _ _ _ (h.same s rfl hs)
    · exact hs
  all_goals exact hs

theorem startClock (h : TrackerKept P) (s : State) (preset : Tick) (hs : P s) : P (s.startClock preset).1 := by
  unfold State.startClock
  split
  · exact h.clockStartEvent _ _ (h.same s rfl hs)
  all_goals exact hs

theorem clearClock (h : TrackerKept P) (s : State) (u : Unit) (hs : P s) : P (s.clearClock u).1 := by
  unfold State.clearClock
  split
  case h_1 | h_2 | h_3 => exact hs
  all_goals
    split
    · exact hs
    · split
      · exact hs
      · exact h.same (s.setUnassigned []) s.clear_tracker (h.cleared s hs)

theorem settleGate (h : TrackerKept P) (s : State) (g : Gate) (hs : P s) : P (s.settleGate g) :=
  h.same _ (State.gateAlarmBlocked_tracker _ g) <| h.same _ (State.leadingEdge_tracker _ g) <| h.acceptance _ g <|
    h.same _ (State.shortPulse_tracker _ g) <| h.same _ (State.holdoffEnd_tracker _ g) <|
    h.same _ (State.edgeInHoldoff_tracker _ g) <| h.same _ (State.blockedInputInactive_tracker _ g) <|
    h.same s (s.gateEnableSample_tracker g) hs

theorem retryTimerExpiry (h : TrackerKept P) (s : State) (hs : P s) : P s.retryTimerExpiry := by
  unfold State.retryTimerExpiry
  split
  · dsimp only
    split
    · exact h.same s rfl hs
    · exact h.sameTracker _ _ (State.leaveSession_sameTracker _ _ _) (h.same s rfl hs)
  · exact hs

theorem keepaliveExpiry (h : TrackerKept P) (s : State) (hs : P s) : P s.keepaliveExpiry := by
  unfold State.keepaliveExpiry
  split
  · exact h.sameTracker _ _ (State.leaveSession_sameTracker _ _ _) hs
  · exact hs

theorem tickInstant (h : TrackerKept P) (s : State) (levels : Byte) (hs : P s) : P (s.settle.tick levels) := by
  have hsettle : P s.settle := State.settle_keeps (fun s => h.same s s.clockLimit_tracker)
    (fun s => h.same s s.haltEnd_tracker) h.settleGate h.examineDeadlines h.retryTimerExpiry h.keepaliveExpiry
    (fun s _ => h.same s rfl) hs
  exact h.same s.settle (State.tick_tracker _ levels) hsettle

end TrackerKept

theorem Kept.of_tracker {P : State → Prop} (h : TrackerKept P) : Kept P where
  link s _ := h.same s rfl
  meet s := h.same s rfl
  arrival s _ _ := h.same s rfl
  markInFlight s _ _ := h.same s rfl
  goBack s _ := h.same s rfl
  leaveSession s next why := h.sameTracker _ _ (s.leaveSession_sameTracker next why)
  openSession s _ := h.same s rfl
  clockLimit s := h.same s s.clockLimit_tracker
  haltEnd s := h.same s s.haltEnd_tracker
  gateEnableSample s g := h.same s (s.gateEnableSample_tracker g)
  blockedInputInactive s g := h.same s (s.blockedInputInactive_tracker g)
  edgeInHoldoff s g := h.same s (s.edgeInHoldoff_tracker g)
  holdoffEnd s g := h.same s (s.holdoffEnd_tracker g)
  shortPulse s g := h.same s (s.shortPulse_tracker g)
  acceptance := h.acceptance
  leadingEdge s g := h.same s (s.leadingEdge_tracker g)
  gateAlarmBlocked s g := h.same s (s.gateAlarmBlocked_tracker g)
  examineDeadlines := h.examineDeadlines
  take := h.take
  tickInstant := h.tickInstant
  disableGate s _ _ _ _ := h.same s rfl
  enableGate s _ a _ _ := h.same s (s.enableGate_tracker a)
  readGate s a := h.same s (s.readGate_tracker a)
  armClock s g := h.same s (s.armClock_tracker g)
  disarmClock s u := h.same s (s.disarmClock_tracker u)
  startClock := h.startClock
  haltClock s u := h.same s (s.haltClock_tracker u)
  resumeClock s u := h.same s (s.resumeClock_tracker u)
  setCourse := h.setCourse
  stageRun := h.stageRun
  withdrawRun := h.withdrawRun
  startGroup := h.startGroup
  releaseRun := h.releaseRun
  holdAssignment s u := h.sameTracker _ _ (s.holdAssignment_sameTracker u)
  releaseAssignment s _ := h.sameTracker s _ ⟨rfl, rfl, rfl, rfl⟩
  swapRuns := h.swapRuns
  assignCrossing := h.assignCrossing
  voidSplit := h.voidSplit
  discardCrossing := h.discardCrossing
  manualCrossing s a := h.same s (s.manualCrossing_tracker a)
  clearClock := h.clearClock
  inert _ _ := h.reset _ rfl
  externalReset _ _ _ := h.reset _ rfl
  partReset _ _ := h.reset _ rfl

end Sys2Proof.Machine
end

section
/-! PROOFS. The laws of the Course Tracker are not inductive as stated: they say nothing of a request that a link reset left in
hand, whose generic checks 1 to 3 the step no longer makes (R130, R136), so a SET COURSE in hand may carry fewer steps than its
step count says. -/

namespace Sys2Proof.Machine

/-- A SET COURSE in hand with the step count 2 and the entry of one step, a payload that generic check 2 would refuse. -/
def shortSetCourse : RequestEntry := ⟨0x20, 0, [1, 0, 2, 0, 0, 0, 0, 0], .executing⟩

/-- The part after reset, but for that request in hand and its step in front of the waiting commands. -/
def State.shortCourseInHand : State :=
  { State.reset with
    link := { State.reset.link with inHand := some shortSetCourse }
    pending := [.setCourse] }

/-- With no course and no run the laws of the Course Tracker hold. -/
theorem State.trackerLaw_of_reset {s : State} (h : s.tracker = CourseTracker.reset) : s.TrackerLaw := by
  have hrun : ∀ i : Slot, s.run i = none := fun i => by simp [State.run, h, CourseTracker.reset]
  refine ⟨fun c hc => ?_, fun i j r hr => ?_, fun i r hr => ?_, ?_, fun k hk => ?_⟩
  · simp [h, CourseTracker.reset] at hc
  · simp [hrun] at hr
  · simp [hrun] at hr
  · simp [h, CourseTracker.reset]
  · simp [h, CourseTracker.reset] at hk

/-- The course that the request in hand installs: it has one step. -/
def oneStepCourse : Course := ⟨1, .gate, [⟨some 0, none⟩], 0⟩

theorem parseSetCourse_short : parseSetCourse shortSetCourse.payload = some oneStepCourse := by decide

theorem step_shortCourseInHand :
    ∃ t, step State.shortCourseInHand = .next t ∧ t.tracker.course = some oneStepCourse := by
  refine ⟨_, rfl, ?_⟩
  decide

/-- Refutes O55: from a state that meets the laws the request in hand installs a course of one step, where R46 has at least
two. -/
theorem not_trackerLawKept : ¬ Obligations.TrackerLawKept := by
  intro h
  obtain ⟨t, hstep, hcourse⟩ := step_shortCourseInHand
  have hlaw : t.TrackerLaw := h _ t (State.trackerLaw_of_reset rfl) hstep
  obtain ⟨hsteps, -⟩ := hlaw.1 _ hcourse
  exact absurd hsteps (by decide)

end Sys2Proof.Machine
end

section
/-! PROOFS. The laws of race time (R2, R10, R24, R43, R99): what the steps of the Race Clock, the Gate Units and the Crossing
Queue do to the count, to the edge times and to the times of the crossings that wait. -/

namespace Sys2Proof.Machine

/-! ## Edge times -/

theorem Tick.zero_le (t : Tick) : 0 ≤ t := Nat.zero_le t.toNat

/-- A pulse that is qualified in this phase, with its stale mark clear, has an edge time that the clock admits (R23, R24). -/
def GatePhase.Timely (p : GatePhase) (c : RaceClock) : Prop :=
  match p with
  | .qualifying t _ false => t ≤ c.count ∧ c.state ≠ .idle
  | _ => True

theorem State.edgesTimely_iff (s : State) : s.EdgesTimely ↔ ∀ g : Gate, (s.gate g).phase.Timely s.clock := Iff.rfl

/-- An edge stays timely while the count does not fall, and from IDLE, where no pulse is unmarked, whatever it becomes. -/
theorem GatePhase.Timely.later {p : GatePhase} {c c' : RaceClock} (h : p.Timely c)
    (hcount : c.count ≤ c'.count ∨ c.state = .idle) (hne : c'.state ≠ .idle) : p.Timely c' := by
  unfold GatePhase.Timely at h ⊢
  split
  · simp only at h
    exact ⟨BitVec.le_trans h.1 (hcount.resolve_right h.2), hne⟩
  · trivial

theorem GateUnit.markStale_timely (u : GateUnit) (c : RaceClock) : u.markStale.phase.Timely c := by
  rw [GateUnit.markStale_eq]
  cases hp : u.phase with
  | qualifying t e stale => trivial
  | disabled | idle | holdoff | blocked => simp only [hp]; trivial

/-! ## The laws, with a condition on the clock -/

/-- The laws of race time hold, and the clock meets the condition `Q`. -/
def State.TimeLawWith (Q : RaceClock → Prop) (s : State) : Prop := s.TimeLaw ∧ Q s.clock

/-- A triggered start leaves a clock that meets `Q`. -/
def StartsWith (Q : RaceClock → Prop) : Prop :=
  ∀ (c : RaceClock) (g : Gate) (width : Byte), c.Lawful → c.state = .armed g → Q c → Q ⟨.running, width.setWidth 32⟩

namespace State.TimeLawWith

variable {Q : RaceClock → Prop} {s : State}

theorem sameRace {t : State} (hst : SameRace s t) (h : s.TimeLawWith Q) : t.TimeLawWith Q := by
  obtain ⟨⟨hclock, hedges, hcross⟩, hq⟩ := h
  unfold State.TimeLawWith State.TimeLaw
  refine ⟨⟨hst.clock ▸ hclock, (State.edgesTimely_iff t).mpr fun g => ?_, ?_⟩, hst.clock ▸ hq⟩
  · rw [hst.gate, hst.clock]
    exact (State.edgesTimely_iff s).mp hedges g
  · unfold State.CrossingsTimely
    rw [hst.crossings, hst.clock]
    exact hcross

theorem setGate (h : s.TimeLawWith Q) (g : Gate) {u : GateUnit} (hu : u.phase.Timely s.clock) :
    (s.setGate g u).TimeLawWith Q := by
  obtain ⟨⟨hclock, hedges, hcross⟩, hq⟩ := h
  refine ⟨⟨hclock, (State.edgesTimely_iff _).mpr fun g' => ?_, hcross⟩, hq⟩
  rw [State.gate_setGate]
  split
  · exact hu
  · exact (State.edgesTimely_iff s).mp hedges g'

theorem timely (h : s.TimeLawWith Q) (g : Gate) : (s.gate g).phase.Timely s.clock :=
  (State.edgesTimely_iff s).mp h.1.2.1 g

/-- A change of a gate that leaves its phase. -/
theorem setGate_phase (h : s.TimeLawWith Q) (g : Gate) (u : GateUnit) (hu : u.phase = (s.gate g).phase) :
    (s.setGate g u).TimeLawWith Q := h.setGate g (hu ▸ h.timely g)

theorem setCounters (h : s.TimeLawWith Q) (g : Gate) (c : GateCounters) : (s.setCounters g c).TimeLawWith Q :=
  h.setGate_phase g { s.gate g with counters := c } rfl

theorem report (h : s.TimeLawWith Q) (b : ReportBody) : (s.report b).TimeLawWith Q :=
  h.sameRace (s.report_change b).sameRace

theorem enterGateIdle (h : s.TimeLawWith Q) (g : Gate) : (s.enterGateIdle g).TimeLawWith Q := by
  have hidle := h.setGate g (u := { s.gate g with phase := .idle, alarmRaised := false }) trivial
  unfold State.enterGateIdle
  split
  · exact hidle.report _
  · exact hidle

/-- A change of clock state to one other than IDLE, at a count that is no lower unless the clock was IDLE. -/
theorem changeClock (h : s.TimeLawWith Q) {st : ClockState} {n : Tick} (why : ClockReason)
    (hlawful : RaceClock.Lawful ⟨st, n⟩) (hq : Q ⟨st, n⟩) (hne : st ≠ .idle)
    (hcount : s.clock.count ≤ n ∨ s.clock.state = .idle) (harmed : st.mode = .armed → s.clock.state.mode = .idle) :
    (s.changeClock st n why).TimeLawWith Q := by
  obtain ⟨⟨-, hedges, htimes, hempty⟩, -⟩ := h
  refine State.TimeLawWith.report (s := { s with clock := ⟨st, n⟩ }) ⟨⟨hlawful, ?_, fun c hc => ?_, fun hm => ?_⟩, hq⟩ _
  · exact (State.edgesTimely_iff _).mpr fun g => ((State.edgesTimely_iff s).mp hedges g).later hcount hne
  · obtain hle | hidle := hcount
    · exact BitVec.le_trans (htimes c hc) hle
    · have hnone : s.crossings.records = [] := hempty (.inl (by rw [hidle]; rfl))
      rw [show ({ s with clock := ⟨st, n⟩ } : State).crossings.records = [] from hnone] at hc
      cases hc
  · obtain hidle | harm := hm
    · cases st with
      | idle => exact absurd rfl hne
      | armed | running | halting | halted => cases hidle
    · exact hempty (.inl (harmed harm))

/-- A crossing timed no later than the count of a clock that has started. -/
theorem appendCrossing (h : s.TimeLawWith Q) (g : Gate) {t : Tick} (src : CrossingSource) (ht : t ≤ s.clock.count)
    (hm : s.clock.state.mode ≠ .idle ∧ s.clock.state.mode ≠ .armed) : (s.appendCrossing g t src).TimeLawWith Q := by
  obtain ⟨⟨hclock, hedges, htimes, -⟩, hq⟩ := h
  rw [State.appendCrossing_eq]
  refine ⟨⟨hclock, hedges, fun c hc => ?_, fun hno => absurd hno (not_or.mpr hm)⟩, hq⟩
  obtain hc | hc := List.mem_append.mp hc
  · exact htimes c hc
  · rw [List.mem_singleton.mp hc]
    exact ht

theorem offerCrossing (h : s.TimeLawWith Q) (g : Gate) {t : Tick} (ht : t ≤ s.clock.count)
    (hm : s.clock.state.mode ≠ .idle ∧ s.clock.state.mode ≠ .armed) : (s.offerCrossing g t).TimeLawWith Q := by
  unfold State.offerCrossing
  split
  · exact (h.setCounters g _).appendCrossing g .sensor ht hm
  · exact (h.setCounters g _).report _

/-! ## The steps of a gate -/

/-- A triggered start runs the clock from the qualify width, which no edge time and no crossing passes (R6). -/
theorem triggeredStart (hQ : StartsWith Q) (h : s.TimeLawWith Q) (g : Gate) {g' : Gate}
    (harmed : s.clock.state = .armed g') : (s.triggeredStart g).TimeLawWith Q := by
  have hzero : s.clock.count = 0 := by
    have hlawful := h.1.1
    simpa only [RaceClock.Lawful, harmed] using hlawful
  have hstart : (s.changeClock .running ((s.gate g).config.qualifyWidth.setWidth 32) .trigger).TimeLawWith Q :=
    h.changeClock .trigger trivial (hQ s.clock g' _ h.1.1 harmed h.2) (by simp)
      (.inl (by rw [hzero]; exact Tick.zero_le _)) (by simp [ClockState.mode])
  exact hstart.sameRace (State.clockStartEvent_change _ _).sameRace

theorem triggeredStart_clock (s : State) (g : Gate) :
    (s.triggeredStart g).clock = ⟨.running, (s.gate g).config.qualifyWidth.setWidth 32⟩ :=
  (State.clockStartEvent_change _ _).clock

/-- The crossing of an acceptance is timed at its edge or, at a triggered start, at 0 (R6, R26). -/
theorem settleAcceptance (hQ : StartsWith Q) (h : s.TimeLawWith Q) (g : Gate) {t : Tick} {stale : Bool}
    (ht : stale = false → t ≤ s.clock.count) : (s.settleAcceptance g t stale).TimeLawWith Q := by
  unfold State.settleAcceptance
  split
  · exact h.setCounters g _
  · next hstale =>
    have hedge := ht (Bool.eq_false_iff.mpr hstale)
    split
    · next hs => exact h.offerCrossing g hedge (by simp [hs, ClockState.mode])
    · next hs => exact h.offerCrossing g hedge (by simp [hs, ClockState.mode])
    · next hs =>
      split
      · refine (h.triggeredStart hQ g hs).offerCrossing g (Tick.zero_le _) ?_
        simp [triggeredStart_clock, ClockState.mode]
      · exact h.setCounters g _
    all_goals exact h.setCounters g _

theorem acceptance (hQ : StartsWith Q) (h : s.TimeLawWith Q) (g : Gate) : (s.acceptance g).TimeLawWith Q := by
  unfold State.acceptance
  split
  · next t e stale hp =>
    split
    · have hphase : (s.afterAcceptance g e).Timely s.clock := by
        unfold State.afterAcceptance
        split <;> trivial
      refine State.TimeLawWith.settleAcceptance hQ (h.setGate g hphase) g fun hstale => ?_
      have hedge := h.timely g
      rw [hp, hstale] at hedge
      exact hedge.1
    · exact h
  all_goals exact h

theorem leadingEdge (h : s.TimeLawWith Q) (g : Gate) : (s.leadingEdge g).TimeLawWith Q := by
  unfold State.leadingEdge
  split
  · split
    · refine h.setGate g ?_
      by_cases hidle : s.clock.state = .idle
      · simp only [hidle, decide_true]
        trivial
      · simp only [hidle, decide_false]
        exact ⟨BitVec.le_refl _, hidle⟩
    · exact h
  all_goals exact h

theorem shortPulse (h : s.TimeLawWith Q) (g : Gate) : (s.shortPulse g).TimeLawWith Q := by
  have hidle : (s.setPhase g .idle).TimeLawWith Q := h.setGate g trivial
  unfold State.shortPulse
  split
  · split
    · exact hidle.setCounters g _
    · exact h
  all_goals exact h

theorem edgeInHoldoff (h : s.TimeLawWith Q) (g : Gate) : (s.edgeInHoldoff g).TimeLawWith Q := by
  unfold State.edgeInHoldoff
  split
  · split
    · exact h.setGate g trivial
    · exact h
  all_goals exact h

theorem holdoffEnd (h : s.TimeLawWith Q) (g : Gate) : (s.holdoffEnd g).TimeLawWith Q := by
  unfold State.holdoffEnd
  split
  · split
    · split
      · exact h.setGate g trivial
      · exact h.enterGateIdle g
    · exact h
  all_goals exact h

theorem blockedInputInactive (h : s.TimeLawWith Q) (g : Gate) : (s.blockedInputInactive g).TimeLawWith Q := by
  unfold State.blockedInputInactive
  split
  · split
    · exact h
    · exact h.enterGateIdle g
  all_goals exact h

theorem gateAlarmBlocked (h : s.TimeLawWith Q) (g : Gate) : (s.gateAlarmBlocked g).TimeLawWith Q := by
  unfold State.gateAlarmBlocked
  split
  · split
    · exact State.TimeLawWith.report (h.setGate_phase g { s.gate g with alarmRaised := true } rfl) _
    · exact h
  · exact h

theorem gateEnableSample (h : s.TimeLawWith Q) (g : Gate) : (s.gateEnableSample g).TimeLawWith Q := by
  unfold State.gateEnableSample
  split
  · split
    · split
      · exact h.setGate g trivial
      · exact h.enterGateIdle g
    · exact h
  all_goals exact h

theorem settleGate (hQ : StartsWith Q) (h : s.TimeLawWith Q) (g : Gate) : (s.settleGate g).TimeLawWith Q :=
  ((((((((h.gateEnableSample g).blockedInputInactive g).edgeInHoldoff g).holdoffEnd g).shortPulse g).acceptance
    hQ g).leadingEdge g).gateAlarmBlocked g)

end State.TimeLawWith

end Sys2Proof.Machine
end

section
/-! PROOFS. Every step keeps the laws of race time, and the count never falls but by CLEAR CLOCK and the resets (R3): the steps
of the Race Clock, the tick instant and the requests, on top of the steps of the gates. -/

namespace Sys2Proof.Machine

/-! ## The clock at a tick instant -/

/-- Neither the limit nor the halt target of a counting clock has been reached. -/
def RaceClock.NotDue (c : RaceClock) : Prop :=
  (c.state.counting = true → c.count ≠ Config.countLimit) ∧ ∀ target, c.state = .halting target → c.count ≠ target

theorem countLimit_toNat : Config.countLimit.toNat = 4294967295 := rfl

/-- A count below the limit does not wrap (R1). -/
theorem Tick.toNat_succ {t : Tick} (h : t ≠ Config.countLimit) : (t + 1).toNat = t.toNat + 1 := by
  have hne : t.toNat ≠ 4294967295 := fun heq => h (BitVec.eq_of_toNat_eq heq)
  have hlt := t.isLt
  have hsum : t.toNat + 1 < 2 ^ 32 := by omega
  rw [BitVec.toNat_add]
  exact Nat.mod_eq_of_lt hsum

theorem Tick.le_succ {t : Tick} (h : t ≠ Config.countLimit) : t ≤ t + 1 := by
  rw [BitVec.le_def, Tick.toNat_succ h]
  exact Nat.le_succ _

/-- The clock after a tick instant. -/
def RaceClock.ticked (c : RaceClock) : RaceClock := if c.state.counting then ⟨c.state, c.count + 1⟩ else c

theorem State.tick_clock (s : State) (levels : Byte) : (s.tick levels).clock = s.clock.ticked := rfl

theorem RaceClock.ticked_state (c : RaceClock) : c.ticked.state = c.state := by
  unfold RaceClock.ticked
  split <;> rfl

theorem RaceClock.ticked_count {c : RaceClock} (h : c.NotDue) : c.count ≤ c.ticked.count := by
  unfold RaceClock.ticked
  split
  · next hcounting => exact Tick.le_succ (h.1 hcounting)
  · exact BitVec.le_refl _

theorem RaceClock.ticked_lawful {c : RaceClock} (h : c.Lawful) (hdue : c.NotDue) : c.ticked.Lawful := by
  obtain ⟨st, n⟩ := c
  cases st with
  | idle | armed | halted => exact h
  | running => trivial
  | halting target =>
    obtain ⟨hle, htarget⟩ := h
    refine ⟨?_, htarget⟩
    have hlimit : n ≠ Config.countLimit := hdue.1 rfl
    have hne : n.toNat ≠ target.toNat := fun heq => hdue.2 target rfl (BitVec.eq_of_toNat_eq heq)
    have hle : n.toNat ≤ target.toNat := hle
    show (n + 1).toNat ≤ target.toNat
    rw [Tick.toNat_succ hlimit]
    omega

/-! ## The steps of the Race Clock -/

namespace State.TimeLawWith

variable {Q : RaceClock → Prop} {s : State}

theorem mono {Q' : RaceClock → Prop} (hQ : ∀ c, Q c → Q' c) (h : s.TimeLawWith Q) : s.TimeLawWith Q' :=
  ⟨h.1, hQ _ h.2⟩

/-- A clock that halts where it stands, at a hundredth boundary or the limit (R11, R13). -/
theorem halt (h : s.TimeLawWith Q) (why : ClockReason) {n : Tick} (hn : s.clock.count = n) (hq : Q ⟨.halted, n⟩)
    (hstop : n.toNat % Config.ticksPerHundredth = 0 ∨ n = Config.countLimit) :
    (s.changeClock .halted n why).TimeLawWith Q :=
  h.changeClock why hstop hq (by simp) (.inl (hn ▸ BitVec.le_refl _)) (by simp [ClockState.mode])

theorem clockLimit (hQ : ∀ st st' n, Q ⟨st, n⟩ → Q ⟨st', n⟩) (h : s.TimeLawWith Q) : s.clockLimit.TimeLawWith Q := by
  unfold State.clockLimit
  split
  · next hdue => exact h.halt .limit hdue.2 (hdue.2 ▸ hQ s.clock.state _ _ h.2) (.inr rfl)
  · exact h

theorem haltEnd (hQ : ∀ st st' n, Q ⟨st, n⟩ → Q ⟨st', n⟩) (h : s.TimeLawWith Q) : s.haltEnd.TimeLawWith Q := by
  unfold State.haltEnd
  split
  · next target hs =>
    split
    · next hdue =>
      have hlawful := h.1.1
      simp only [RaceClock.Lawful, hs] at hlawful
      exact h.halt .boundary hdue.1 (hdue.1 ▸ hQ s.clock.state _ _ h.2) hlawful.2
    · exact h
  all_goals exact h

end State.TimeLawWith

theorem State.haltEnd_notDue {s : State} (h : s.clock.state.counting = true → s.clock.count ≠ Config.countLimit) :
    s.haltEnd.clock.NotDue := by
  unfold State.haltEnd
  split
  · next target hs =>
    split
    · exact ⟨nofun, nofun⟩
    · next hdue =>
      refine ⟨h, fun target' hs' heq => hdue ⟨?_, ?_⟩⟩
      · obtain rfl : target = target' := ClockState.halting.inj (hs.symm.trans hs')
        exact heq
      · obtain rfl : target = target' := ClockState.halting.inj (hs.symm.trans hs')
        exact heq ▸ h (by rw [hs]; rfl)
  all_goals
    next hs => exact ⟨h, fun target' hs' => nomatch hs.symm.trans hs'⟩

/-- After the limit and the end of a halt have been looked at, neither is due. -/
theorem State.clockLimit_haltEnd_notDue (s : State) : s.clockLimit.haltEnd.clock.NotDue := by
  apply State.haltEnd_notDue
  unfold State.clockLimit
  split
  · exact nofun
  · next hdue => exact fun hcounting hlimit => hdue ⟨hcounting, hlimit⟩

/-- The clock is at or above `n`, and nothing of it is due. -/
def RaceClock.NotDueFrom (n : Tick) (c : RaceClock) : Prop := n ≤ c.count ∧ c.NotDue

/-- A triggered start comes at count 0 and leaves a count of at most 255. -/
theorem startsWith_notDueFrom (n : Tick) : StartsWith (RaceClock.NotDueFrom n) := by
  intro c g width hlawful harmed hq
  have hzero : c.count = 0 := by simpa only [RaceClock.Lawful, harmed] using hlawful
  refine ⟨BitVec.le_trans hq.1 (hzero ▸ Tick.zero_le _), fun _ hlimit => ?_, nofun⟩
  have hnat := congrArg BitVec.toNat hlimit
  have hwidth := width.isLt
  rw [BitVec.toNat_setWidth, countLimit_toNat] at hnat
  omega

theorem startsWith_from (n : Tick) : StartsWith (fun c => n ≤ c.count) := by
  intro c g width hlawful harmed hq
  have hzero : c.count = 0 := by simpa only [RaceClock.Lawful, harmed] using hlawful
  exact BitVec.le_trans hq (hzero ▸ Tick.zero_le _)

/-! ## The laws, from a count on -/

/-- The laws of race time hold, and the count is at least `n`. -/
abbrev State.TimeLawFrom (n : Tick) (s : State) : Prop := s.TimeLawWith fun c => n ≤ c.count

namespace State.TimeLawFrom

variable {n : Tick} {s : State}

theorem settle (h : s.TimeLawFrom n) : s.settle.TimeLawWith (RaceClock.NotDueFrom n) := by
  have hlimit : s.clockLimit.TimeLawFrom n := State.TimeLawWith.clockLimit (fun _ _ _ h => h) h
  have hhalt : s.clockLimit.haltEnd.TimeLawFrom n := State.TimeLawWith.haltEnd (fun _ _ _ h => h) hlimit
  have hstart : s.clockLimit.haltEnd.TimeLawWith (RaceClock.NotDueFrom n) :=
    ⟨hhalt.1, hhalt.2, s.clockLimit_haltEnd_notDue⟩
  have hgates : ∀ (gs : List Gate) (u : State), u.TimeLawWith (RaceClock.NotDueFrom n) →
      (gs.foldl State.settleGate u).TimeLawWith (RaceClock.NotDueFrom n) := by
    intro gs u hu
    induction gs generalizing u with
    | nil => exact hu
    | cons g gs ih =>
      rw [List.foldl_cons]
      exact ih _ (hu.settleGate (startsWith_notDueFrom n) g)
  have hdeadlines := (hgates Config.allGates _ hstart).sameRace (State.examineDeadlines_change _).sameRace
  have hretry := hdeadlines.sameRace (State.retryTimerExpiry_sameRace _)
  have hkeep := hretry.sameRace (State.keepaliveExpiry_sameRace _)
  unfold State.settle
  exact hkeep.sameRace (State.settleGap_sameRace _)

/-- A tick instant counts on where nothing is due (R1). -/
theorem tick (h : s.TimeLawWith (RaceClock.NotDueFrom n)) (levels : Byte) : (s.tick levels).TimeLawFrom n := by
  obtain ⟨⟨hclock, hedges, htimes, hempty⟩, hfrom, hdue⟩ := h
  have hcount : s.clock.count ≤ (s.tick levels).clock.count := RaceClock.ticked_count hdue
  have hstate : (s.tick levels).clock.state = s.clock.state := s.clock.ticked_state
  refine ⟨⟨RaceClock.ticked_lawful hclock hdue, (State.edgesTimely_iff _).mpr fun g => ?_, fun c hc => ?_, fun hm => ?_⟩,
    BitVec.le_trans hfrom hcount⟩
  · have hedge := (State.edgesTimely_iff s).mp hedges g
    by_cases hidle : s.clock.state = .idle
    · have hsame : (s.tick levels).clock = s.clock := by
        simp [State.tick_clock, RaceClock.ticked, hidle, ClockState.counting]
      rw [hsame]
      exact hedge
    · exact hedge.later (.inl hcount) (hstate ▸ hidle)
  · exact BitVec.le_trans (htimes c hc) hcount
  · exact hempty (hstate ▸ hm)

theorem tickInstant (h : s.TimeLawFrom n) (levels : Byte) : (s.settle.tick levels).TimeLawFrom n :=
  tick (settle h) levels

/-! ## The requests -/

theorem disableGate (h : s.TimeLawFrom n) (a : Gate × GateConfig) : (s.disableGate a).1.TimeLawFrom n :=
  h.setGate a.1 trivial

theorem enableGate (h : s.TimeLawFrom n) (a : Gate × GateConfig) : (s.enableGate a).1.TimeLawFrom n := by
  unfold State.enableGate
  split
  · exact h.setGate a.1 trivial
  all_goals split <;> exact h

theorem readGate (h : s.TimeLawFrom n) (a : Gate × Bool) : (s.readGate a).1.TimeLawFrom n := by
  unfold State.readGate
  split
  · exact h.setCounters a.1 _
  · exact h

theorem armClock (h : s.TimeLawFrom n) (g : Gate) : (s.armClock g).1.TimeLawFrom n := by
  unfold State.armClock
  split
  · next hs =>
    split
    · have hzero : s.clock.count = 0 := by simpa only [RaceClock.Lawful, hs] using h.1.1
      exact h.changeClock .request hzero h.2 (by simp) (.inr hs) (fun _ => by rw [hs]; rfl)
    · exact h
  all_goals exact h

/-- A clock that enters IDLE at count 0, with every qualifying gate told of it and no crossing waiting. -/
theorem toIdle {m : Tick} (hm : m ≤ 0) (hempty : s.crossings.records = []) :
    (s.staleNotice.changeClock .idle 0 .request).TimeLawFrom m := by
  refine State.TimeLawWith.report (s := { s.staleNotice with clock := ⟨.idle, 0⟩ }) ⟨⟨rfl, ?_, ?_, fun _ => hempty⟩, hm⟩ _
  · refine (State.edgesTimely_iff _).mpr fun g => ?_
    rw [show ({ s.staleNotice with clock := ⟨.idle, 0⟩ } : State).gate g = (s.gate g).markStale from s.gate_staleNotice g]
    exact GateUnit.markStale_timely _ _
  · rw [show ({ s.staleNotice with clock := ⟨.idle, 0⟩ } : State).crossings.records = [] from hempty]
    exact nofun

theorem disarmClock (h : s.TimeLawFrom n) (u : Unit) : (s.disarmClock u).1.TimeLawFrom n := by
  unfold State.disarmClock
  split
  · next g hs =>
    have hzero : s.clock.count = 0 := by simpa only [RaceClock.Lawful, hs] using h.1.1
    rw [hzero]
    exact toIdle (hzero ▸ h.2) (h.1.2.2.2 (.inr (by rw [hs]; rfl)))
  all_goals exact h

theorem startClock (h : s.TimeLawFrom n) (preset : Tick) : (s.startClock preset).1.TimeLawFrom n := by
  unfold State.startClock
  split
  · next hs =>
    have hzero : s.clock.count = 0 := by simpa only [RaceClock.Lawful, hs] using h.1.1
    have hfrom : n ≤ preset := BitVec.le_trans h.2 (hzero ▸ Tick.zero_le _)
    have hstart : (s.changeClock .running preset .request).TimeLawFrom n :=
      h.changeClock .request trivial hfrom (by simp) (.inr hs) (by simp [ClockState.mode])
    exact hstart.sameRace (State.clockStartEvent_change _ _).sameRace
  all_goals exact h

/-- The halt target is above the count, and a hundredth boundary or the limit (R10). -/
theorem haltTargetFor_lawful (count : Tick) : RaceClock.Lawful ⟨.halting (haltTargetFor count), count⟩ := by
  have hlt := count.isLt
  show count.toNat ≤ (haltTargetFor count).toNat ∧ ((haltTargetFor count).toNat % 100 = 0 ∨ haltTargetFor count = 0xFFFFFFFF)
  unfold haltTargetFor
  dsimp only
  split
  · refine ⟨?_, .inr rfl⟩
    rw [countLimit_toNat]
    omega
  · next hle =>
    rw [countLimit_toNat] at hle
    rw [BitVec.toNat_ofNat, Nat.mod_eq_of_lt (by omega)]
    simp only [Config.ticksPerHundredth] at hle ⊢
    omega

theorem haltClock (h : s.TimeLawFrom n) (u : Unit) : (s.haltClock u).1.TimeLawFrom n := by
  unfold State.haltClock
  split
  · exact h.changeClock .request (haltTargetFor_lawful _) h.2 (by simp) (.inl (BitVec.le_refl _)) (by simp [ClockState.mode])
  all_goals exact h

theorem resumeClock (h : s.TimeLawFrom n) (u : Unit) : (s.resumeClock u).1.TimeLawFrom n := by
  have hrun : (s.changeClock .running s.clock.count .request).TimeLawFrom n :=
    h.changeClock .request trivial h.2 (by simp) (.inl (BitVec.le_refl _)) (by simp [ClockState.mode])
  unfold State.resumeClock
  split
  · split
    · exact h
    · exact hrun
  · exact hrun
  all_goals exact h

theorem manualCrossing (h : s.TimeLawFrom n) (a : Gate × Tick) : (s.manualCrossing a).1.TimeLawFrom n := by
  unfold State.manualCrossing
  split
  case h_1 | h_2 => exact h
  all_goals
    next hs =>
    split
    · exact h
    · next hle =>
      split
      · exact h
      · exact h.appendCrossing a.1 .manual (BitVec.not_lt.mp hle) (by simp [hs, ClockState.mode])

theorem taken (h : s.TimeLawFrom n) {c : Crossing} {rest : List Crossing} (hc : s.crossings.records = c :: rest) :
    State.TimeLawFrom n { s with crossings := { s.crossings with records := rest } } := by
  obtain ⟨⟨hclock, hedges, htimes, hempty⟩, hfrom⟩ := h
  refine ⟨⟨hclock, hedges, fun x hx => htimes x (hc ▸ List.mem_cons_of_mem c hx), fun hm => ?_⟩, hfrom⟩
  exact nomatch hc.symm.trans (hempty hm)

end State.TimeLawFrom

theorem raceKept_timeLawFrom (n : Tick) : RaceKept (State.TimeLawFrom n) where
  sameRace _ _ hst h := h.sameRace hst
  clockLimit _ h := h.clockLimit fun _ _ _ h => h
  haltEnd _ h := h.haltEnd fun _ _ _ h => h
  gateEnableSample _ g h := h.gateEnableSample g
  blockedInputInactive _ g h := h.blockedInputInactive g
  edgeInHoldoff _ g h := h.edgeInHoldoff g
  holdoffEnd _ g h := h.holdoffEnd g
  shortPulse _ g h := h.shortPulse g
  acceptance _ g h := h.acceptance (startsWith_from n) g
  leadingEdge _ g h := h.leadingEdge g
  gateAlarmBlocked _ g h := h.gateAlarmBlocked g
  taken _ _ _ hc h := State.TimeLawFrom.taken h hc
  tickInstant _ levels h := State.TimeLawFrom.tickInstant h levels
  disableGate _ _ a _ _ h := State.TimeLawFrom.disableGate h a
  enableGate _ _ a _ _ h := State.TimeLawFrom.enableGate h a
  readGate _ a h := State.TimeLawFrom.readGate h a
  armClock _ g h := State.TimeLawFrom.armClock h g
  disarmClock _ u h := State.TimeLawFrom.disarmClock h u
  startClock _ preset h := State.TimeLawFrom.startClock h preset
  haltClock _ u h := State.TimeLawFrom.haltClock h u
  resumeClock _ u h := State.TimeLawFrom.resumeClock h u
  manualCrossing _ a h := State.TimeLawFrom.manualCrossing h a

/-! ## CLEAR CLOCK and the resets -/

/-- The clock IDLE at 0, every gate DISABLED and no crossing: as every reset leaves them. -/
theorem State.timeLaw_of_reset {s : State} (hclock : s.clock = ⟨.idle, 0⟩)
    (hgates : s.gates = Vector.replicate 8 GateUnit.reset) (hcross : s.crossings.records = []) :
    s.TimeLawFrom 0 := by
  refine ⟨⟨hclock ▸ rfl, (State.edgesTimely_iff s).mpr fun g => ?_, fun c hc => ?_, fun _ => hcross⟩, Tick.zero_le _⟩
  · have hgate : s.gate g = GateUnit.reset := by simp [State.gate, hgates]
    rw [hgate]
    trivial
  · rw [hcross] at hc
    cases hc

/-- CLEAR CLOCK is refused with no change, or comes in IDLE or HALTED with no crossing waiting (R14). -/
theorem State.clearClock_cases (s : State) (u : Unit) : (s.clearClock u).1 = s
    ∨ (s.clock.state = .idle ∨ s.clock.state = .halted) ∧ s.crossings.records = [] ∧ s.clearClock u = s.clear := by
  unfold State.clearClock
  split
  case h_1 | h_2 | h_3 => exact .inl rfl
  all_goals
    next hs =>
    split
    · exact .inl rfl
    · split
      · exact .inl rfl
      · next hcross => exact .inr ⟨by simp [hs], not_not.mp hcross, rfl⟩

theorem State.clear_idle {s : State} (hs : s.clock.state = .idle) :
    s.clear = ({ s.setUnassigned [] with clock := ⟨.idle, 0⟩ }, .ok [byteOf s.tracker.unassigned.length]) := by
  simp only [State.clear, hs]

theorem State.clear_halted {s : State} (hs : s.clock.state = .halted) :
    s.clear = ((s.setUnassigned []).staleNotice.changeClock .idle 0 .request,
      .ok [byteOf s.tracker.unassigned.length]) := by
  simp only [State.clear, hs]

/-- In IDLE the count is 0 already; from HALTED the qualifying gates are told (R14, R24). -/
theorem State.clearClock_timeLaw {s : State} (h : s.TimeLawFrom 0) (u : Unit) : (s.clearClock u).1.TimeLawFrom 0 := by
  obtain hsame | ⟨hidle | hhalted, hcross, hclear⟩ := s.clearClock_cases u
  · rw [hsame]
    exact h
  · have hzero : s.clock.count = 0 := by simpa only [RaceClock.Lawful, hidle] using h.1.1
    have hclock : s.clock = ⟨.idle, 0⟩ := by rw [← hidle, ← hzero]
    rw [hclear, State.clear_idle hidle]
    exact h.sameRace ⟨hclock.symm, rfl, rfl, rfl⟩
  · rw [hclear, State.clear_halted hhalted]
    exact State.TimeLawFrom.toIdle (s := s.setUnassigned []) (Tick.zero_le _) hcross

theorem kept_timeLaw : Kept (State.TimeLawFrom 0) where
  toKeptByWork := .of_race (raceKept_timeLawFrom 0)
  clearClock _ u h := State.clearClock_timeLaw h u
  inert _ _ := State.timeLaw_of_reset rfl rfl rfl
  externalReset _ _ _ := State.timeLaw_of_reset rfl rfl rfl
  partReset _ _ := State.timeLaw_of_reset rfl rfl rfl

/-- Settles O56: every operation of every command keeps the laws. -/
theorem timeLawKept : Obligations.TimeLawKept := by
  intro s t h hstep
  have hs : s.TimeLawFrom 0 := ⟨h, Tick.zero_le _⟩
  exact (kept_timeLaw.step (fun _ _ h => h.sameRace ⟨rfl, rfl, rfl, rfl⟩) hs hstep).1

end Sys2Proof.Machine
end

section
/-! PROOFS. What lowers the count (R3); and every command is answered with a next state and keeps the waiting commands, a
request step only when its turn has come (R130, R136). -/

namespace Sys2Proof.Machine

/-! ## The count -/

theorem State.breakWith_clock (s : State) (hand : Option RequestEntry) :
    (s.breakWith hand false).clock = s.clock := (State.leaveSession_sameRace _ _ _).clock

/-- A link reset leaves the clock, unless a RESET PART completes in it: one that was decided, or one in front that was
taken before it (R129, R140). -/
theorem State.lineBreak_clock (s : State) : s.lineBreak.clock = s.clock
    ∨ s.lineBreak.clock.count = 0
      ∧ (s.resetDecided = true
        ∨ Config.meeting s.meetings = true ∧ ∃ r, s.nextRequest = some r ∧ r.isPartReset = true) := by
  unfold State.lineBreak
  split
  · exact .inl rfl
  · split
    · cases hd : s.resetDecided with
      | false => exact .inl (s.breakWith_clock _)
      | true => exact .inr ⟨rfl, .inl rfl⟩
    · next r hn =>
      split
      · next hm =>
        cases hp : r.isPartReset with
        | false => exact .inl (s.meet.breakWith_clock _)
        | true => exact .inr ⟨rfl, .inr ⟨hm, r, hn, hp⟩⟩
      · exact .inl (s.meet.breakWith_clock _)

theorem RequestEntry.isSending_not_waiting {e : RequestEntry} (h : e.isSending = true) : e.isWaiting = false := by
  obtain ⟨code, tag, payload, st⟩ := e
  cases st with
  | waiting => cases h
  | executing | ready | sending => rfl

/-- The end of a reply leaves the clock, unless it is that of a RESET PART (R138, R140). -/
theorem State.bufferReplySent_clock (s : State) : s.bufferReplySent.clock = s.clock
    ∨ s.bufferReplySent.clock.count = 0 ∧ s.resetDecided = true := by
  unfold State.bufferReplySent
  split
  · split
    · next e he =>
      split
      · next hreset =>
        refine .inr ⟨rfl, List.any_eq_true.mpr ⟨e, List.mem_of_find?_eq_some he, ?_⟩⟩
        rw [hreset, RequestEntry.isSending_not_waiting (List.find?_some (p := RequestEntry.isSending) he)]
        rfl
      · exact .inl rfl
    · exact .inl rfl
  all_goals exact .inl rfl

/-- CLEAR CLOCK leaves the clock or sets its count to 0 (R14). -/
theorem State.clearClock_clock (s : State) (u : Unit) :
    (s.clearClock u).1.clock = s.clock ∨ (s.clearClock u).1.clock.count = 0 := by
  obtain hsame | ⟨hidle | hhalted, -, hclear⟩ := s.clearClock_cases u
  · exact .inl (congrArg State.clock hsame)
  · rw [hclear, State.clear_idle hidle]
    exact .inr rfl
  · rw [hclear, State.clear_halted hhalted]
    exact .inr rfl

theorem RequestEntry.isPartReset_iff {e : RequestEntry} : e.isPartReset = true ↔ e.code = 5 ∧ e.payload = [] := by
  simp [RequestEntry.isPartReset]

/-- A RESET PART in front, as the statements read it. -/
theorem State.nextIs_resetPart {s : State} {r : RequestEntry} (hl : s.pins.resetLow = false)
    (hn : s.nextRequest = some r) (hp : r.isPartReset = true) : ∃ tag, s.NextIs 0x05 tag [] := by
  obtain ⟨hcode, hpayload⟩ := RequestEntry.isPartReset_iff.mp hp
  have hw := State.nextRequest_waiting hn
  obtain ⟨code, tag, payload, st⟩ := r
  subst hcode hpayload hw
  exact ⟨tag, hl, hn⟩

/-- A step that the part takes, with RSTn high, or none, with RSTn low (R169). -/
theorem State.live_cases (s : State) (f : State → State) : s.live f = s ∨ s.pins.resetLow = false ∧ s.live f = f s := by
  cases hl : s.pins.resetLow with
  | false => exact .inr ⟨rfl, State.live_high hl f⟩
  | true => exact .inl (State.live_low hl f)

/-- Settles O59: every command that is neither CLEAR CLOCK nor brings a reset keeps the laws from the present count on; of
the others, what each does to the clock. -/
theorem countNeverDecreases : Obligations.CountNeverDecreases := by
  intro c s t h hexec hlower
  have hfell : t.clock ≠ s.clock := fun heq => BitVec.lt_irrefl _ (heq ▸ hlower)
  cases hc : isResetting c with
  | false =>
    obtain ⟨u, hu, -, hfrom⟩ := (KeptByWork.of_race (raceKept_timeLawFrom s.clock.count)).exec hc
      ⟨h, BitVec.le_refl _⟩
    cases hu.symm.trans hexec
    exact absurd hlower (BitVec.not_lt.mpr hfrom)
  | true =>
    cases c with
    | rstnLow =>
      cases hexec
      exact ⟨rfl, .inr (.inl rfl)⟩
    | externalReset b1 b0 =>
      cases hexec
      exact ⟨rfl, .inr (.inr (.inl ⟨b1, b0, rfl⟩))⟩
    | clearClock =>
      have hclear : ∀ u v, (u.clock = s.clock ∨ u.clock.count = 0) →
          ((State.clearClock u v).1.clock = s.clock ∨ (State.clearClock u v).1.clock.count = 0) := fun u v hu =>
        (u.clearClock_clock v).elim (fun heq => heq ▸ hu) .inr
      have hkept : t.clock = s.clock ∨ t.clock.count = 0 := by
        cases hexec
        exact State.live_keeps (P := fun u => u.clock = s.clock ∨ u.clock.count = 0)
          (State.serve_keeps (P := fun u => u.clock = s.clock ∨ u.clock.count = 0) (fun _ _ h => h) hclear) (.inl rfl)
      exact ⟨hkept.resolve_left hfell, .inl rfl⟩
    | bufferReplySent =>
      cases hexec
      obtain hsame | ⟨-, hlive⟩ := s.live_cases State.bufferReplySent
      · exact absurd (congrArg State.clock hsame) hfell
      · obtain ⟨hzero, hdecided⟩ := s.bufferReplySent_clock.resolve_left (hlive ▸ hfell)
        exact ⟨hlive ▸ hzero, .inr (.inr (.inr (.inl ⟨.inl rfl, hdecided⟩)))⟩
    | lineBreak =>
      cases hexec
      obtain hsame | ⟨hl, hlive⟩ := s.live_cases State.lineBreak
      · exact absurd (congrArg State.clock hsame) hfell
      · obtain ⟨hzero, hdecided | ⟨hm, r, hn, hp⟩⟩ := s.lineBreak_clock.resolve_left (hlive ▸ hfell)
        · exact ⟨hlive ▸ hzero, .inr (.inr (.inr (.inl ⟨.inr rfl, hdecided⟩)))⟩
        · exact ⟨hlive ▸ hzero, .inr (.inr (.inr (.inr ⟨rfl, hm, State.nextIs_resetPart hl hn hp⟩)))⟩
    | _ => cases hc

/-! ## The waiting commands -/

/-- The commands that wait are `p`. -/
def State.PendingIs (p : List Instr) (s : State) : Prop := s.pending = p

theorem DueChange.pendingIs {s t : State} (h : DueChange s t) {p : List Instr} (hs : s.PendingIs p) : t.PendingIs p :=
  h.pending.trans hs

theorem State.settleGap_pending (s : State) : s.settleGap.pending = s.pending := s.settleGap_sameRace.pending

theorem State.settle_pending {s : State} {p : List Instr} (h : s.PendingIs p) : s.settle.PendingIs p :=
  State.settle_keeps (fun s => s.clockLimit_due.pendingIs) (fun s => s.haltEnd_due.pendingIs)
    (fun s g => (s.settleGate_due g).pendingIs) (fun s => s.examineDeadlines_change.due.pendingIs)
    (fun s => s.retryTimerExpiry_due.pendingIs) (fun s => s.keepaliveExpiry_due.pendingIs) (fun _ _ h => h) h

theorem State.tick_pending (s : State) (levels : Byte) : (s.tick levels).pending = s.pending := rfl

theorem raceKept_pendingIs (p : List Instr) : RaceKept (State.PendingIs p) where
  sameRace _ _ hst h := hst.pending.trans h
  clockLimit s := s.clockLimit_due.pendingIs
  haltEnd s := s.haltEnd_due.pendingIs
  gateEnableSample s g := (s.gateEnableSample_due g).pendingIs
  blockedInputInactive s g := (s.blockedInputInactive_due g).pendingIs
  edgeInHoldoff s g := (s.edgeInHoldoff_due g).pendingIs
  holdoffEnd s g := (s.holdoffEnd_due g).pendingIs
  shortPulse s g := (s.shortPulse_due g).pendingIs
  acceptance s g := (s.acceptance_due g).pendingIs
  leadingEdge s g := (s.leadingEdge_due g).pendingIs
  gateAlarmBlocked s g := (s.gateAlarmBlocked_due g).pendingIs
  taken _ _ _ _ h := h
  tickInstant _ levels h := (State.tick_pending _ levels).trans (State.settle_pending h)
  disableGate _ _ _ _ _ h := h
  enableGate s _ a _ _ h := by
    unfold State.enableGate
    repeat' split
    all_goals exact h
  readGate s a h := by
    unfold State.readGate
    split <;> exact h
  armClock s g h := by
    unfold State.armClock
    repeat' split
    all_goals exact h
  disarmClock s u h := by
    unfold State.disarmClock
    split <;> exact h
  startClock s preset h := by
    unfold State.startClock
    split
    · exact (State.clockStartEvent_change _ _).due.pendingIs h
    all_goals exact h
  haltClock s u h := by
    unfold State.haltClock
    split <;> exact h
  resumeClock s u h := by
    unfold State.resumeClock
    repeat' split
    all_goals exact h
  manualCrossing s a h := by
    unfold State.manualCrossing
    simp only [State.appendCrossing_eq]
    repeat' split
    all_goals exact h

theorem kept_pendingIs (p : List Instr) : Kept (State.PendingIs p) where
  toKeptByWork := .of_race (raceKept_pendingIs p)
  clearClock s u h := by
    obtain hsame | ⟨hidle | hhalted, -, hclear⟩ := s.clearClock_cases u
    · exact hsame.symm ▸ h
    · rw [hclear, State.clear_idle hidle]
      exact h
    · rw [hclear, State.clear_halted hhalted]
      exact h
  inert _ h := h
  externalReset _ _ h := h
  partReset _ h := h

/-! ## Request steps out of their turn -/

theorem RequestEntry.code_eq {r : RequestEntry} {code : Byte} : codeIs code r = true ↔ r.code = code := beq_iff_eq

/-- A request step out of its turn changes nothing. -/
theorem State.live_serve_other {α : Type} {s : State} {mine : RequestEntry → Bool} {parse : List Byte → Option α}
    {act : State → α → State × Response} {c : Instr} (hmine : ∀ r, mine r = true → r.step = c)
    (hnext : ∀ r, s.nextRequest = some r → r.step ≠ c) (hhand : ∀ r, s.link.inHand = some r → r.step ≠ c) :
    s.live (·.serve mine parse act) = s := by
  have hserve : s.serve mine parse act = s := State.serve_other
    (fun r hr => Bool.eq_false_iff.mpr fun hm => hnext r hr (hmine r hm))
    (fun r hr => Bool.eq_false_iff.mpr fun hm => hhand r hr (hmine r hm))
  obtain hsame | ⟨-, hlive⟩ := s.live_cases (·.serve mine parse act)
  · exact hsame
  · exact hlive.trans hserve

/-- A code that generic check 1 does not know has the step of UNKNOWN_REQUEST (R136). -/
theorem RequestEntry.step_unknown {r : RequestEntry} (h : payloadFits r.code r.payload = none) :
    r.step = .unknownRequest := by
  unfold payloadFits at h
  split at h
  case h_32 =>
    unfold RequestEntry.step
    split
    case h_32 => rfl
    all_goals exfalso; solve_by_elim
  all_goals cases h

/-- The step of a request whose code is the one given, by evaluation. -/
theorem RequestEntry.step_of_codeIs {code : Byte} {c : Instr}
    (h : ∀ tag p st, RequestEntry.step ⟨code, tag, p, st⟩ = c) (r : RequestEntry) (hr : codeIs code r = true) :
    r.step = c := by
  obtain ⟨code', tag, p, st⟩ := r
  obtain rfl : code' = code := RequestEntry.code_eq.mp hr
  exact h tag p st

theorem RequestEntry.step_setGate (tag : Byte) (p : List Byte) (st : EntryState) :
    RequestEntry.step ⟨0x10, tag, p, st⟩ = if enabledField p = some 1 then .setGateEnable else .setGateDisable := rfl

/-- SET GATE's two steps take each the requests whose enabled field is theirs (log entry 8). -/
theorem RequestEntry.step_setGateDisable (r : RequestEntry)
    (hr : (codeIs 0x10 r && enabledField r.payload != some 1) = true) : r.step = .setGateDisable := by
  obtain ⟨hcode, hfield⟩ := Bool.and_eq_true_iff.mp hr
  obtain ⟨code, tag, p, st⟩ := r
  obtain rfl : code = 0x10 := RequestEntry.code_eq.mp hcode
  rw [RequestEntry.step_setGate, if_neg (by simpa using hfield)]

theorem RequestEntry.step_setGateEnable (r : RequestEntry)
    (hr : (codeIs 0x10 r && enabledField r.payload == some 1) = true) : r.step = .setGateEnable := by
  obtain ⟨hcode, hfield⟩ := Bool.and_eq_true_iff.mp hr
  obtain ⟨code, tag, p, st⟩ := r
  obtain rfl : code = 0x10 := RequestEntry.code_eq.mp hcode
  rw [RequestEntry.step_setGate, if_pos (by simpa using hfield)]

/-- A request step changes nothing unless its request is in front or in hand (R130, R136). -/
theorem exec_request_other {c : Instr} {s : State} (hc : isRequestStep c = true)
    (hnext : ∀ r, s.nextRequest = some r → r.step ≠ c) (hhand : ∀ r, s.link.inHand = some r → r.step ≠ c) :
    exec c s = .next s := by
  have hcode {α : Type} {code : Byte} {parse : List Byte → Option α} {act : State → α → State × Response}
      (h : ∀ tag p st, RequestEntry.step ⟨code, tag, p, st⟩ = c) : s.live (·.serve (codeIs code) parse act) = s :=
    State.live_serve_other (RequestEntry.step_of_codeIs h) hnext hhand
  cases c with
  | setGateDisable =>
    exact congrArg Host.Outcome.next (State.live_serve_other RequestEntry.step_setGateDisable hnext hhand)
  | setGateEnable =>
    exact congrArg Host.Outcome.next (State.live_serve_other RequestEntry.step_setGateEnable hnext hhand)
  | unknownRequest =>
    exact congrArg Host.Outcome.next
      (State.live_serve_other (fun r hr => RequestEntry.step_unknown (Option.isNone_iff_eq_none.mp hr)) hnext hhand)
  | openSession | closeSession | ping | status | resetPart | getGate | armClock | disarmClock | startClock | haltClock
  | resumeClock | clearClock | readClock | setCourse | getCourse | stageRun | withdrawRun | startGroup | readRun
  | releaseRun | listRuns | holdAssignment | releaseAssignment | swapRuns | assignCrossing | voidSplit
  | discardCrossing | readQueue | readUnassigned | manualCrossing =>
    exact congrArg Host.Outcome.next (hcode fun _ _ _ => rfl)
  | _ => cases hc

/-- Settles O2: every operation keeps the waiting commands, and a request step takes the requests of its own step only. -/
theorem everyCommandIsAnsweredInTurn : Obligations.EveryCommandIsAnsweredInTurn :=
  ⟨fun c s => (kept_pendingIs s.pending).exec c rfl, fun _ _ hc hnext hhand => exec_request_other hc hnext hhand⟩

end Sys2Proof.Machine
end

section
/-! PROOFS. The laws of the gates (R17, R19, R31): a gate unit is replaced by a lawful one, or told that the clock is IDLE; the
fields of a SET GATE are in range once it is parsed. -/

namespace Sys2Proof.Machine

theorem State.GatesLawful.of_gates {s t : State} (hg : t.gates = s.gates) (h : s.GatesLawful) : t.GatesLawful := by
  intro g
  rw [State.gate, hg]
  exact h g

theorem State.GatesLawful.setGate {s : State} (h : s.GatesLawful) (g : Gate) {u : GateUnit} (hu : u.Lawful) :
    (s.setGate g u).GatesLawful := by
  intro g'
  rw [State.gate_setGate]
  split
  · exact hu
  · exact h g'

/-- A change of the counters alone. -/
theorem State.GatesLawful.setCounters {s : State} (h : s.GatesLawful) (g : Gate) (c : GateCounters) :
    (s.setCounters g c).GatesLawful := h.setGate g (u := { s.gate g with counters := c }) (h g)

/-- A gate that is not DISABLED holds its fields as an enabled gate does (R19). -/
theorem GateUnit.Lawful.enabled {u : GateUnit} (h : u.Lawful) (hp : u.phase ≠ .disabled none) :
    u.config.enabled = true := by
  obtain ⟨-, hphase⟩ := h
  split at hphase
  · next hnone => exact absurd hnone hp
  · exact hphase.1
  · exact hphase.1
  · exact hphase.1
  · exact hphase
  · exact hphase

/-- An enabled gate may go to IDLE with its marker clear, and to HOLDOFF and BLOCKED with either. -/
theorem GateUnit.Lawful.toIdle {u : GateUnit} (h : u.Lawful) (hp : u.phase ≠ .disabled none) :
    ({ u with phase := .idle, alarmRaised := false } : GateUnit).Lawful := ⟨h.1, h.enabled hp, rfl⟩

theorem GateUnit.Lawful.toMarked {u : GateUnit} (h : u.Lawful) (hp : u.phase ≠ .disabled none) {p : GatePhase}
    (hmark : p.activeSince ≠ none) : ({ u with phase := p } : GateUnit).Lawful := by
  refine ⟨h.1, ?_⟩
  cases p with
  | holdoff | blocked => exact h.enabled hp
  | disabled | idle | qualifying => exact absurd rfl hmark

/-- A gate in IDLE or QUALIFYING has its marker clear, and may go from one to the other (R31). -/
theorem GateUnit.Lawful.toIdleOrQualifying {u : GateUnit} (h : u.Lawful)
    (hold : u.phase = .idle ∨ ∃ t e stale, u.phase = .qualifying t e stale) {p : GatePhase}
    (hnew : p = .idle ∨ ∃ t e stale, p = .qualifying t e stale) : ({ u with phase := p } : GateUnit).Lawful := by
  have hclear : u.config.enabled = true ∧ u.alarmRaised = false := by
    obtain ⟨-, hphase⟩ := h
    obtain hp | ⟨t, e, stale, hp⟩ := hold <;> simpa only [hp] using hphase
  refine ⟨h.1, ?_⟩
  obtain rfl | ⟨t, e, stale, rfl⟩ := hnew <;> exact hclear

theorem GateUnit.Lawful.markStale {u : GateUnit} (h : u.Lawful) : u.markStale.Lawful := by
  rw [GateUnit.markStale_eq]
  split
  · next t e stale hp => exact h.toIdleOrQualifying (.inr ⟨t, e, stale, hp⟩) (.inr ⟨t, e, true, rfl⟩)
  · exact h

theorem State.GatesLawful.staleNotice {s : State} (h : s.GatesLawful) : s.staleNotice.GatesLawful := by
  intro g
  rw [State.gate_staleNotice]
  exact (h g).markStale

theorem State.GatesLawful.enterGateIdle {s : State} (h : s.GatesLawful) (g : Gate)
    (hp : (s.gate g).phase ≠ .disabled none) : (s.enterGateIdle g).GatesLawful := by
  have hidle := h.setGate g ((h g).toIdle hp)
  unfold State.enterGateIdle
  split
  · exact hidle.of_gates rfl
  · exact hidle

/-! ## The steps -/

theorem State.GatesLawful.settleAcceptance {s : State} (h : s.GatesLawful) (g : Gate) (t : Tick) (stale : Bool) :
    (s.settleAcceptance g t stale).GatesLawful := by
  have hoffer : ∀ (u : State) (t : Tick), u.GatesLawful → (u.offerCrossing g t).GatesLawful := by
    intro u t hu
    by_cases hroom : u.crossings.records.length < 32
    · rw [State.offerCrossing_room g t hroom]
      exact (hu.setCounters g _).of_gates (s := u.setCounters g _) rfl
    · rw [State.offerCrossing_full g t (Nat.not_lt.mp hroom)]
      exact (hu.setCounters g _).of_gates (s := u.setCounters g _) rfl
  unfold State.settleAcceptance
  split
  · exact h.setCounters g _
  · split
    · exact hoffer _ _ h
    · exact hoffer _ _ h
    · split
      · exact hoffer _ _ (h.of_gates (State.clockStartEvent_change _ _).gates)
      · exact h.setCounters g _
    all_goals exact h.setCounters g _

/-- A pulse accepted leaves the gate in HOLDOFF or BLOCKED (R28). -/
theorem State.GatesLawful.acceptance {s : State} (h : s.GatesLawful) (g : Gate) : (s.acceptance g).GatesLawful := by
  unfold State.acceptance
  split
  · next t e stale hp =>
    split
    · refine State.GatesLawful.settleAcceptance (h.setGate g ((h g).toMarked (by simp [hp]) ?_)) g t stale
      unfold State.afterAcceptance
      split <;> simp [GatePhase.activeSince]
    · exact h
  all_goals exact h

theorem State.GatesLawful.leadingEdge {s : State} (h : s.GatesLawful) (g : Gate) : (s.leadingEdge g).GatesLawful := by
  unfold State.leadingEdge
  split
  · next hp =>
    split
    · exact h.setGate g ((h g).toIdleOrQualifying (.inl hp) (.inr ⟨_, _, _, rfl⟩))
    · exact h
  all_goals exact h

theorem State.GatesLawful.shortPulse {s : State} (h : s.GatesLawful) (g : Gate) : (s.shortPulse g).GatesLawful := by
  unfold State.shortPulse
  split
  · next t e stale hp =>
    have hidle := h.setGate g ((h g).toIdleOrQualifying (.inr ⟨t, e, stale, hp⟩) (.inl rfl))
    split
    · exact hidle.setCounters g _
    · exact h
  all_goals exact h

theorem State.GatesLawful.edgeInHoldoff {s : State} (h : s.GatesLawful) (g : Gate) :
    (s.edgeInHoldoff g).GatesLawful := by
  unfold State.edgeInHoldoff
  split
  · next hp =>
    split
    · exact h.setGate g ((h g).toMarked (by simp [hp]) nofun)
    · exact h
  all_goals exact h

theorem State.GatesLawful.holdoffEnd {s : State} (h : s.GatesLawful) (g : Gate) : (s.holdoffEnd g).GatesLawful := by
  unfold State.holdoffEnd
  split
  · next hp =>
    split
    · split
      · exact h.setGate g ((h g).toMarked (by simp [hp]) nofun)
      · exact h.enterGateIdle g (by simp [hp])
    · exact h
  all_goals exact h

theorem State.GatesLawful.blockedInputInactive {s : State} (h : s.GatesLawful) (g : Gate) :
    (s.blockedInputInactive g).GatesLawful := by
  unfold State.blockedInputInactive
  split
  · next hp =>
    split
    · exact h
    · exact h.enterGateIdle g (by simp [hp])
  all_goals exact h

/-- The marker is set in HOLDOFF and BLOCKED only, where the active-since mark is present (R21, R31). -/
theorem State.GatesLawful.gateAlarmBlocked {s : State} (h : s.GatesLawful) (g : Gate) :
    (s.gateAlarmBlocked g).GatesLawful := by
  unfold State.gateAlarmBlocked
  split
  · next mark hmark =>
    split
    · have hraised : ({ s.gate g with alarmRaised := true } : GateUnit).Lawful := by
        refine ⟨(h g).1, ?_⟩
        cases hp : (s.gate g).phase with
        | holdoff | blocked => exact (h g).enabled (by simp [hp])
        | disabled | idle | qualifying => simp [hp, GatePhase.activeSince] at hmark
      exact (h.setGate g hraised).of_gates rfl
    · exact h
  · exact h

theorem State.GatesLawful.gateEnableSample {s : State} (h : s.GatesLawful) (g : Gate) :
    (s.gateEnableSample g).GatesLawful := by
  unfold State.gateEnableSample
  split
  · next hp =>
    split
    · split
      · exact h.setGate g ((h g).toMarked (by simp [hp]) nofun)
      · exact h.enterGateIdle g (by simp [hp])
    · exact h
  all_goals exact h

theorem State.GatesLawful.settleGate {s : State} (h : s.GatesLawful) (g : Gate) : (s.settleGate g).GatesLawful := by
  unfold State.settleGate
  exact State.GatesLawful.gateAlarmBlocked (.leadingEdge (.acceptance (.shortPulse (.holdoffEnd (.edgeInHoldoff
    (.blockedInputInactive (.gateEnableSample h g) g) g) g) g) g) g) g

theorem State.GatesLawful.settle {s : State} (h : s.GatesLawful) : s.settle.GatesLawful := by
  have hsame {s t : State} (hst : SameRace s t) (hs : s.GatesLawful) : t.GatesLawful := hs.of_gates hst.gates
  refine State.settle_keeps (P := State.GatesLawful) (fun s hs => ?_) (fun s hs => ?_) (fun s g hs => ?_)
    (fun s => hsame s.examineDeadlines_change.sameRace) (fun s => hsame s.retryTimerExpiry_sameRace)
    (fun s => hsame s.keepaliveExpiry_sameRace) (fun _ _ hs => hs) h
  · unfold State.clockLimit
    split <;> exact hs
  · unfold State.haltEnd
    repeat' split
    all_goals exact hs
  · exact State.GatesLawful.settleGate hs g

/-! ## SET GATE -/

/-- What a SET GATE parses to is in the ranges of R17, and enabled as its enabled field says. -/
theorem parseSetGate_some {p : List Byte} {a : Gate × GateConfig} (h : parseSetGate p = some a) :
    a.2.InRange ∧ (a.2.enabled = true ↔ enabledField p = some 1) := by
  unfold parseSetGate at h
  split at h
  · next g e pol q hold b raw =>
    simp only [Option.bind_eq_bind, Option.bind_eq_some_iff] at h
    obtain ⟨gate, -, enabled, hen, polarity, -, rawReport, -, h⟩ := h
    split at h
    · next hrange =>
      cases h
      refine ⟨hrange, ?_⟩
      unfold parseYesNo at hen
      simp only [enabledField, List.getElem?_cons_succ, List.getElem?_cons_zero, Option.some.injEq]
      split at hen
      · next h0 =>
        cases hen
        simp [h0]
      · split at hen
        · next h1 =>
          cases hen
          simp [h1]
        · cases hen
    · cases h
  · cases h

theorem State.GatesLawful.disableGate {s : State} (h : s.GatesLawful) {a : Gate × GateConfig} (hrange : a.2.InRange)
    (hen : a.2.enabled = false) : (s.disableGate a).1.GatesLawful := h.setGate a.1 ⟨hrange, hen, rfl⟩

theorem State.GatesLawful.enableGate {s : State} (h : s.GatesLawful) {a : Gate × GateConfig} (hrange : a.2.InRange)
    (hen : a.2.enabled = true) : (s.enableGate a).1.GatesLawful := by
  unfold State.enableGate
  split
  · next w hp =>
    have hclear : (s.gate a.1).alarmRaised = false := by
      have hphase := (h a.1).2
      cases w <;> simp only [hp] at hphase <;> exact hphase.2
    exact h.setGate a.1 ⟨hrange, hen, hclear⟩
  all_goals split <;> exact h

theorem State.tick_gates (s : State) (levels : Byte) : (s.tick levels).gates = s.gates := rfl

theorem raceKept_gatesLawful : RaceKept State.GatesLawful where
  sameRace _ _ hst h := h.of_gates hst.gates
  clockLimit s h := by
    unfold State.clockLimit
    split <;> exact h
  haltEnd s h := by
    unfold State.haltEnd
    repeat' split
    all_goals exact h
  gateEnableSample _ g h := h.gateEnableSample g
  blockedInputInactive _ g h := h.blockedInputInactive g
  edgeInHoldoff _ g h := h.edgeInHoldoff g
  holdoffEnd _ g h := h.holdoffEnd g
  shortPulse _ g h := h.shortPulse g
  acceptance _ g h := h.acceptance g
  leadingEdge _ g h := h.leadingEdge g
  gateAlarmBlocked _ g h := h.gateAlarmBlocked g
  taken _ _ _ _ h := h
  tickInstant s levels h := State.GatesLawful.of_gates (State.tick_gates _ levels) h.settle
  disableGate _ _ a hp hf h :=
    h.disableGate (parseSetGate_some hp).1 (Bool.eq_false_iff.mpr fun hen => hf ((parseSetGate_some hp).2.mp hen))
  enableGate _ _ a hp hf h := h.enableGate (parseSetGate_some hp).1 ((parseSetGate_some hp).2.mpr hf)
  readGate s a h := by
    unfold State.readGate
    split
    · exact h.setCounters a.1 _
    · exact h
  armClock s g h := by
    unfold State.armClock
    repeat' split
    all_goals exact h
  disarmClock s u h := by
    unfold State.disarmClock
    split
    · exact h.staleNotice.of_gates rfl
    all_goals exact h
  startClock s preset h := by
    unfold State.startClock
    split
    · exact h.of_gates (State.clockStartEvent_change _ _).gates
    all_goals exact h
  haltClock s u h := by
    unfold State.haltClock
    split <;> exact h
  resumeClock s u h := by
    unfold State.resumeClock
    repeat' split
    all_goals exact h
  manualCrossing s a h := by
    unfold State.manualCrossing
    simp only [State.appendCrossing_eq]
    repeat' split
    all_goals exact h

theorem State.gatesLawful_of_reset {s : State} (h : s.gates = Vector.replicate 8 GateUnit.reset) : s.GatesLawful := by
  have hreset : GateUnit.reset.Lawful := ⟨⟨by decide, by decide, by decide, by decide⟩, rfl, rfl⟩
  intro g
  have hgate : s.gate g = GateUnit.reset := by simp [State.gate, h]
  exact hgate ▸ hreset

theorem kept_gatesLawful : Kept State.GatesLawful where
  toKeptByWork := .of_race raceKept_gatesLawful
  clearClock s u h := by
    obtain hsame | ⟨hidle | hhalted, -, hclear⟩ := s.clearClock_cases u
    · exact hsame.symm ▸ h
    · rw [hclear, State.clear_idle hidle]
      exact h
    · rw [hclear, State.clear_halted hhalted]
      exact (State.GatesLawful.staleNotice (s := s.setUnassigned []) h).of_gates rfl
  inert _ _ := State.gatesLawful_of_reset rfl
  externalReset _ _ _ := State.gatesLawful_of_reset rfl
  partReset _ _ := State.gatesLawful_of_reset rfl

/-- Settles O57: every operation of every command keeps the laws. -/
theorem gateLawsKept : Obligations.GateLawsKept :=
  fun _ _ h hstep => kept_gatesLawful.step (fun _ _ h => h) h hstep

end Sys2Proof.Machine
end

section
/-! PROOFS. What must be checked of a property of the Link Controller for every command to keep it (`LinkKept`): one condition
for each thing that the receiver, the screening, the Request Handler, the transmitter and a link reset do to it. -/

namespace Sys2Proof.Machine

/-- Everything that is done to the Link Controller keeps the property. -/
structure LinkKept (Q : LinkController → Prop) : Prop where
  screen : ∀ l code tag payload, Q l → Q (l.screen code tag payload)
  badFrames : ∀ l n, Q l → Q { l with badFrames := n }
  lastCharacter : ∀ l now, Q l → Q { l with lastCharacter := now }
  receiver : ∀ l r, (l.breakHeld = true → l.receiver = .hunting → r = .hunting) → (l.receiver.Lawful → r.Lawful) → Q l →
    Q { l with receiver := r }
  openChoice : ∀ l b, Q l → Q { l with openChoice := b }
  answer : ∀ l r, Q l → Q (l.answer r)
  dropHand : ∀ l, Q l → Q { l with inHand := none }
  beginShort : ∀ l f, l.transmitter = .free → l.shortReply = some f → Q l → Q { l with transmitter := .shortReply f }
  beginReady : ∀ l f, l.transmitter = .free → l.buffer.findSome? (·.readyReply) = some f → Q l → Q { l with
    buffer := replaceFirst (fun e => e.readyReply.isSome) (fun e => { e with state := .sending f }) l.buffer
    transmitter := .bufferReply f }
  beginReport : ∀ l q f, l.transmitter = .free → Q l → Q { l with transmitter := .report q f }
  shortSent : ∀ l f, l.transmitter = .shortReply f → Q l → Q { l with shortReply := none, transmitter := .free }
  bufferSent : ∀ l f c, l.transmitter = .bufferReply f → Q l → Q { l with
    buffer := l.buffer.eraseP (·.isSending), replyCache := c, transmitter := .free }
  freed : ∀ l, l.buffer.find? (·.isSending) = none ∨ (∃ q f, l.transmitter = .report q f) → Q l →
    Q { l with transmitter := .free }
  linkReset : ∀ l hand, hand = l.inHand ∨ (∀ e, hand = some e → e.state = .executing ∧ e.isPartReset = false) → Q l →
    Q { l with breakHeld := true, transmitter := .free, openChoice := true, receiver := .hunting, buffer := []
               shortReply := none, replyCache := none, inHand := hand }
  reset : ∀ rate held, Q { LinkController.reset rate with breakHeld := held }
  breakEnd : ∀ l, Q l → Q { l with breakHeld := false, receiver := .hunting }

/-! ## Requests -/

/-- The Link Controller after a request step: as before, with no request in hand, or with the request in front answered. -/
theorem State.serve_link {α : Type} {act : State → α → State × Response} (hact : EffectIgnoresLink act)
    (mine : RequestEntry → Bool) (parse : List Byte → Option α) (s : State) :
    (s.serve mine parse act).link = s.link ∨ (s.serve mine parse act).link = { s.link with inHand := none }
      ∨ ∃ r, (s.serve mine parse act).link = s.link.answer r := by
  have heffect (l : LinkController) (a : α) : (act (s.setLink l) a).1.link = l := by rw [hact]; rfl
  unfold State.serve
  split
  · split
    · split
      · exact .inr (.inl rfl)
      · next a _ => exact .inr (.inl (heffect _ a))
    · exact .inl rfl
  · split
    · exact .inl rfl
    · next r hr =>
      have hfree := (State.nextRequest_some hr).2.1
      have hreply (t : State) (ht : t.link = s.takeRequest.link) (rsp : Response) :
          (t.reply rsp).link = s.link.answer rsp := by
        rw [State.takeRequest_reply hfree t ht]
        rfl
      split
      · split
        · exact .inr (.inr ⟨_, hreply _ rfl _⟩)
        · split
          · exact .inr (.inr ⟨_, hreply _ rfl _⟩)
          · next a _ => exact .inr (.inr ⟨_, hreply _ (heffect _ a) _⟩)
      · exact .inl rfl

namespace LinkKept

variable {Q : LinkController → Prop}

theorem serve (h : LinkKept Q) {α : Type} {act : State → α → State × Response} (hact : EffectIgnoresLink act)
    (mine : RequestEntry → Bool) (parse : List Byte → Option α) (s : State) (hs : Q s.link) :
    Q (s.serve mine parse act).link := by
  obtain hl | hl | ⟨r, hl⟩ := State.serve_link hact mine parse s
  · exact hl ▸ hs
  · exact hl ▸ h.dropHand _ hs
  · exact hl ▸ h.answer _ r hs

/-! ## The receiver -/

theorem receiving (h : LinkKept Q) {l : LinkController} {r : Receiver} (hheld : l.breakHeld = false) (hr : r.Lawful)
    (hl : Q l) : Q { l with receiver := r } :=
  h.receiver l r (fun hbreak => absurd (hheld.symm.trans hbreak) nofun) (fun _ => hr) hl

theorem hunting (h : LinkKept Q) {l : LinkController} (hl : Q l) : Q { l with receiver := .hunting } :=
  h.receiver l _ (fun _ _ => rfl) (fun _ => trivial) hl

theorem acceptFrame (h : LinkKept Q) (s : State) (body : List Byte) (hs : Q s.link) : Q (s.acceptFrame body).link := by
  unfold State.acceptFrame
  split
  · split
    · exact h.screen _ _ _ _ hs
    · exact h.badFrames _ _ hs
  · exact h.badFrames _ _ hs

end LinkKept

theorem LinkController.screen_breakHeld (l : LinkController) (code tag : Byte) (payload : List Byte) :
    (l.screen code tag payload).breakHeld = l.breakHeld := by
  unfold LinkController.screen
  repeat' split
  all_goals rfl

theorem State.acceptFrame_breakHeld (s : State) (body : List Byte) :
    (s.acceptFrame body).link.breakHeld = s.link.breakHeld := by
  unfold State.acceptFrame
  split
  · split
    · exact LinkController.screen_breakHeld _ _ _ _
    · rfl
  · rfl

namespace LinkKept

variable {Q : LinkController → Prop}

theorem receive (h : LinkKept Q) (fuel : Nat) (cs : List Byte) (s : State) (hheld : s.link.breakHeld = false)
    (hs : Q s.link) : Q (s.receive fuel cs).link := by
  fun_induction State.receive s fuel cs with
  | case1 | case2 | case4 => exact h.receiving hheld trivial hs
  | case3 _ _ _ _ _ ih => exact ih hheld hs
  | case5 _ _ _ _ _ _ _ ih => exact ih hheld (h.badFrames _ _ hs)
  | case6 _ _ _ _ _ _ hlen hshort =>
    obtain ⟨hmin, hmax⟩ := not_or.mp hlen
    exact h.receiving hheld ⟨Nat.not_lt.mp hmin, Nat.not_lt.mp hmax, hshort⟩ hs
  | case7 _ _ _ _ _ _ _ _ _ _ ih => exact ih ((State.acceptFrame_breakHeld _ _).trans hheld) (h.acceptFrame _ _ hs)
  | case8 _ _ _ _ _ _ _ _ _ _ ih => exact ih hheld (h.badFrames _ _ hs)

theorem dropPartial (h : LinkKept Q) (s : State) (hs : Q s.link) : Q s.dropPartial.link := by
  unfold State.dropPartial
  split
  · exact hs
  all_goals exact h.hunting (h.badFrames _ _ hs)

theorem syncByteFound (h : LinkKept Q) (s : State) (hs : Q s.link) : Q s.syncByteFound.link := by
  have hdrop : s.dropPartial.link.breakHeld = s.link.breakHeld := by
    unfold State.dropPartial
    split <;> rfl
  unfold State.syncByteFound
  split
  case h_1 | h_2 =>
    split
    · exact hs
    · next hheld =>
      exact h.receiving (hdrop.trans (Bool.eq_false_iff.mpr hheld)) trivial (h.lastCharacter _ _ (h.dropPartial s hs))
  all_goals exact hs

theorem lengthAccepted (h : LinkKept Q) (s : State) (len : Byte) (hs : Q s.link) : Q (s.lengthAccepted len).link := by
  unfold State.lengthAccepted
  split
  · split
    · next hc => exact h.receiving hc.1 ⟨hc.2.1, hc.2.2, by simp⟩ (h.lastCharacter _ _ hs)
    · exact hs
  all_goals exact hs

theorem lengthOutOfRange (h : LinkKept Q) (s : State) (len : Byte) (hs : Q s.link) :
    Q (s.lengthOutOfRange len).link := by
  unfold State.lengthOutOfRange
  split
  · split
    · next hc => exact h.receive _ _ _ hc.1 (h.badFrames _ _ (h.lastCharacter _ _ hs))
    · exact hs
  all_goals exact hs

/-- A body character is not the last of its frame, so the partial frame stays shorter than a whole one. -/
theorem bodyCharacter (h : LinkKept Q) (s : State) (c : Byte) (hs : Q s.link) : Q (s.bodyCharacter c).link := by
  unfold State.bodyCharacter
  split
  · next len cs hbody =>
    split
    · next hc =>
      refine h.receiver _ (.body len (cs ++ [c])) (fun hbreak => absurd (hc.1.symm.trans hbreak) nofun) (fun hr => ?_)
        (h.lastCharacter _ s.instant hs)
      have hlen : (Receiver.body len cs).Lawful := hbody ▸ hr
      exact ⟨hlen.1, hlen.2.1, by simpa using hc.2⟩
    · exact hs
  all_goals exact hs

theorem frameComplete (h : LinkKept Q) (s : State) (c : Byte) (hs : Q s.link) : Q (s.frameComplete c).link := by
  unfold State.frameComplete
  split
  · split
    · next hc => exact h.receive _ _ _ hc.1 (h.lastCharacter _ _ hs)
    · exact hs
  all_goals exact hs

theorem interCharacterGap (h : LinkKept Q) (s : State) (hs : Q s.link) : Q s.interCharacterGap.link := by
  unfold State.interCharacterGap
  split
  · exact h.dropPartial s hs
  · exact hs

theorem framingError (h : LinkKept Q) (s : State) (hs : Q s.link) : Q s.framingError.link := by
  unfold State.framingError
  split
  · exact hs
  · exact h.dropPartial s hs

theorem breakEnd_step (h : LinkKept Q) (s : State) (hs : Q s.link) : Q s.breakEnd.link := by
  unfold State.breakEnd
  split
  · exact h.breakEnd _ hs
  · exact hs

end LinkKept

theorem State.take_link (s : State) : s.take.link = s.link := by
  unfold State.take
  split
  · exact ((State.place_change _ _).trans (State.examineDeadlines_change _)).link
  all_goals rfl

theorem State.live_keeps_link {Q : LinkController → Prop} {f : State → State} {s : State}
    (hf : Q s.link → Q (f s).link) (hs : Q s.link) : Q (s.live f).link :=
  State.live_keeps (P := fun s => Q s.link) hf hs

theorem DueChange.keeps_link {Q : LinkController → Prop} {s t : State} (hdue : DueChange s t) (hs : Q s.link) :
    Q t.link := hdue.link ▸ hs

theorem State.breakWith_link (s : State) (hand : Option RequestEntry) (decided : Bool) :
    (s.breakWith hand decided).link =
      if decided then { LinkController.reset s.link.rate with breakHeld := true }
      else { s.link with
        breakHeld := true, transmitter := .free, openChoice := true, receiver := .hunting, buffer := []
        shortReply := none, replyCache := none, inHand := hand } := by
  have hleft := (State.leaveSession_due ((s.setLink { s.link with breakHeld := true }).setLink { s.link with
    breakHeld := true, transmitter := .free, openChoice := true, receiver := .hunting, buffer := []
    shortReply := none, replyCache := none, inHand := hand }) .closed .linkReset).link
  cases decided with
  | false => exact hleft
  | true => exact congrArg (fun l : LinkController => { LinkController.reset l.rate with breakHeld := l.breakHeld }) hleft

namespace LinkKept

variable {Q : LinkController → Prop}

/-- A request taken before a link reset is in hand after it only when it is no RESET PART, which resets the part (R140). -/
theorem lineBreak (h : LinkKept Q) (s : State) (hs : Q s.link) : Q s.lineBreak.link := by
  have hbreak (t : State) (ht : t.link = s.link) (hand : Option RequestEntry) (decided : Bool)
      (hhand : decided = false → hand = s.link.inHand ∨ ∀ e, hand = some e → e.state = .executing ∧ e.isPartReset = false) :
      Q (t.breakWith hand decided).link := by
    rw [State.breakWith_link, ht]
    cases decided with
    | true => exact h.reset _ _
    | false => exact h.linkReset _ _ (hhand rfl) hs
  unfold State.lineBreak
  split
  · exact hs
  · split
    · exact hbreak s rfl _ _ fun _ => .inl rfl
    · next r _ =>
      split
      · refine hbreak s.meet rfl _ _ fun hr => .inr fun e he => ?_
        unfold State.handOf at he
        split at he
        · cases he
          exact ⟨rfl, hr⟩
        · cases he
      · exact hbreak s.meet rfl _ _ fun _ => .inr nofun

/-! ## The transmitter -/

theorem startReport (h : LinkKept Q) (s : State) (hfree : s.link.transmitter = .free) (hs : Q s.link) :
    Q s.startReport.link := by
  unfold State.startReport
  split
  · exact h.openChoice { s.link with transmitter := _ } _ (h.beginReport _ _ _ hfree hs)
  · exact hs

theorem startNext (h : LinkKept Q) (s : State) (hfree : s.link.transmitter = .free) (hs : Q s.link) :
    Q s.startNext.link := by
  unfold State.startNext
  split
  · next f hshort => exact h.openChoice { s.link with transmitter := _ } _ (h.beginShort _ f hfree hshort hs)
  · split
    · next f hready =>
      exact h.openChoice { s.link with buffer := _, transmitter := _ } _ (h.beginReady _ f hfree hready hs)
    · exact h.startReport s hfree hs

theorem frameStart (h : LinkKept Q) (s : State) (hs : Q s.link) : Q s.frameStart.link := by
  unfold State.frameStart
  split
  · next hfree =>
    split
    · split
      · exact h.startReport s.meet hfree hs
      · exact h.startNext s.meet hfree hs
    · exact h.startNext s hfree hs
  all_goals exact hs

theorem shortReplySent (h : LinkKept Q) (s : State) (hs : Q s.link) : Q s.shortReplySent.link := by
  unfold State.shortReplySent
  split
  · next f hshort =>
    exact h.openChoice { s.link with shortReply := none, transmitter := .free } _ (h.shortSent _ f hshort hs)
  all_goals exact hs

theorem bufferReplySent (h : LinkKept Q) (s : State) (hs : Q s.link) : Q s.bufferReplySent.link := by
  unfold State.bufferReplySent
  split
  · next f hsending =>
    split
    · split
      · exact h.reset _ _
      · exact h.openChoice { s.link with buffer := _, replyCache := _, transmitter := .free } _
          (h.bufferSent _ f _ hsending hs)
    · next hnone => exact h.openChoice { s.link with transmitter := .free } _ (h.freed _ (.inl hnone) hs)
  all_goals exact hs

theorem reportSent (h : LinkKept Q) (s : State) (hs : Q s.link) : Q s.reportSent.link := by
  unfold State.reportSent
  split
  · next q f hreport => exact h.openChoice { s.link with transmitter := .free } _ (h.freed _ (.inr ⟨q, f, hreport⟩) hs)
  all_goals exact hs

/-! ## Each command -/

theorem settleGap (h : LinkKept Q) (s : State) (hs : Q s.link) : Q s.settleGap.link := by
  have hlapse (hr : s.link.receiver ≠ .hunting) : Q (s.setReceiver .lapsed).link :=
    h.receiver _ _ (fun _ hhunt => absurd hhunt hr) (fun _ => trivial) hs
  unfold State.settleGap
  split
  · exact hs
  case h_2 | h_3 =>
    split
    · next hr _ => exact hlapse (by simp [hr])
    · exact hs
  · split
    · exact h.dropPartial s hs
    · exact hs

theorem tickInstant (h : LinkKept Q) (s : State) (levels : Byte) (hl : s.pins.resetLow = false) (hs : Q s.link) :
    Q (s.settle.tick levels).link := by
  obtain ⟨u, -, hdue, hsettle⟩ := runAll_dueSteps s hl
  rw [hsettle]
  exact h.openChoice _ _ (h.settleGap u (hdue.link ▸ hs))

theorem request (h : LinkKept Q) {α : Type} {mine : RequestEntry → Bool} {parse : List Byte → Option α}
    {act : State → α → State × Response} (hact : EffectIgnoresLink act) {s : State} (hs : Q s.link) :
    Q (s.live (·.serve mine parse act)).link := by
  obtain hlive | ⟨-, hlive⟩ := s.live_cases (·.serve mine parse act)
  · rw [hlive]
    exact hs
  · rw [hlive]
    exact h.serve hact mine parse s hs

/-- Every command is answered with a next state, and keeps the property of the Link Controller. -/
theorem exec (h : LinkKept Q) (c : Instr) {s : State} (hs : Q s.link) : ∃ t, exec c s = .next t ∧ Q t.link := by
  cases c with
  | rstnLow | externalReset => exact ⟨_, rfl, h.reset _ false⟩
  | leadingEdge g => exact ⟨_, rfl, State.live_keeps_link (s.leadingEdge_due g).keeps_link hs⟩
  | shortPulse g => exact ⟨_, rfl, State.live_keeps_link (s.shortPulse_due g).keeps_link hs⟩
  | acceptance g => exact ⟨_, rfl, State.live_keeps_link (s.acceptance_due g).keeps_link hs⟩
  | edgeInHoldoff g => exact ⟨_, rfl, State.live_keeps_link (s.edgeInHoldoff_due g).keeps_link hs⟩
  | holdoffEnd g => exact ⟨_, rfl, State.live_keeps_link (s.holdoffEnd_due g).keeps_link hs⟩
  | blockedInputInactive g => exact ⟨_, rfl, State.live_keeps_link (s.blockedInputInactive_due g).keeps_link hs⟩
  | gateAlarmBlocked g => exact ⟨_, rfl, State.live_keeps_link (s.gateAlarmBlocked_due g).keeps_link hs⟩
  | gateEnableSample g => exact ⟨_, rfl, State.live_keeps_link (s.gateEnableSample_due g).keeps_link hs⟩
  | haltEnd => exact ⟨_, rfl, State.live_keeps_link s.haltEnd_due.keeps_link hs⟩
  | clockLimit => exact ⟨_, rfl, State.live_keeps_link s.clockLimit_due.keeps_link hs⟩
  | take => exact ⟨_, rfl, State.live_keeps_link (fun hs => s.take_link ▸ hs) hs⟩
  | deadlineExpiry => exact ⟨_, rfl, State.live_keeps_link s.examineDeadlines_change.due.keeps_link hs⟩
  | lengthOutOfRange len => exact ⟨_, rfl, State.live_keeps_link (h.lengthOutOfRange s len) hs⟩
  | frameComplete c => exact ⟨_, rfl, State.live_keeps_link (h.frameComplete s c) hs⟩
  | interCharacterGap => exact ⟨_, rfl, State.live_keeps_link (h.interCharacterGap s) hs⟩
  | framingError => exact ⟨_, rfl, State.live_keeps_link (h.framingError s) hs⟩
  | lineBreak => exact ⟨_, rfl, State.live_keeps_link (h.lineBreak s) hs⟩
  | breakEnd => exact ⟨_, rfl, State.live_keeps_link (h.breakEnd_step s) hs⟩
  | frameStart => exact ⟨_, rfl, State.live_keeps_link (h.frameStart s) hs⟩
  | shortReplySent => exact ⟨_, rfl, State.live_keeps_link (h.shortReplySent s) hs⟩
  | bufferReplySent => exact ⟨_, rfl, State.live_keeps_link (h.bufferReplySent s) hs⟩
  | reportSent => exact ⟨_, rfl, State.live_keeps_link (h.reportSent s) hs⟩
  | retryTimerExpiry => exact ⟨_, rfl, State.live_keeps_link s.retryTimerExpiry_due.keeps_link hs⟩
  | keepaliveExpiry => exact ⟨_, rfl, State.live_keeps_link s.keepaliveExpiry_due.keeps_link hs⟩
  | tickInstant levels =>
    refine ⟨_, rfl, ?_⟩
    obtain hlive | ⟨hl, hlive⟩ := s.live_cases fun s => s.settle.tick levels
    · rw [hlive]
      exact hs
    · rw [hlive]
      exact h.tickInstant s levels hl hs
  | syncByteFound => exact ⟨_, rfl, State.live_keeps_link (h.syncByteFound s) hs⟩
  | lengthAccepted len => exact ⟨_, rfl, State.live_keeps_link (h.lengthAccepted s len) hs⟩
  | bodyCharacter c => exact ⟨_, rfl, State.live_keeps_link (h.bodyCharacter s c) hs⟩
  | unknownRequest => exact ⟨_, rfl, h.request noOwner_ignoresLink.effect hs⟩
  | openSession => exact ⟨_, rfl, h.request openSession_ignoresLink.effect hs⟩
  | closeSession => exact ⟨_, rfl, h.request closeSession_ignoresLink.effect hs⟩
  | ping => exact ⟨_, rfl, h.request ping_ignoresLink.effect hs⟩
  | status => exact ⟨_, rfl, h.request status_effectIgnoresLink hs⟩
  | resetPart => exact ⟨_, rfl, h.request resetPart_ignoresLink.effect hs⟩
  | setGateDisable => exact ⟨_, rfl, h.request disableGate_ignoresLink.effect hs⟩
  | setGateEnable => exact ⟨_, rfl, h.request enableGate_ignoresLink.effect hs⟩
  | getGate => exact ⟨_, rfl, h.request readGate_ignoresLink.effect hs⟩
  | armClock => exact ⟨_, rfl, h.request armClock_ignoresLink.effect hs⟩
  | disarmClock => exact ⟨_, rfl, h.request disarmClock_ignoresLink.effect hs⟩
  | startClock => exact ⟨_, rfl, h.request startClock_ignoresLink.effect hs⟩
  | haltClock => exact ⟨_, rfl, h.request haltClock_ignoresLink.effect hs⟩
  | resumeClock => exact ⟨_, rfl, h.request resumeClock_ignoresLink.effect hs⟩
  | clearClock => exact ⟨_, rfl, h.request clearClock_ignoresLink.effect hs⟩
  | readClock => exact ⟨_, rfl, h.request readClock_ignoresLink.effect hs⟩
  | setCourse => exact ⟨_, rfl, h.request setCourse_ignoresLink.effect hs⟩
  | getCourse => exact ⟨_, rfl, h.request getCourse_ignoresLink.effect hs⟩
  | stageRun => exact ⟨_, rfl, h.request stageRun_ignoresLink.effect hs⟩
  | withdrawRun => exact ⟨_, rfl, h.request withdrawRun_ignoresLink.effect hs⟩
  | startGroup => exact ⟨_, rfl, h.request startGroup_ignoresLink.effect hs⟩
  | readRun => exact ⟨_, rfl, h.request readRun_ignoresLink.effect hs⟩
  | releaseRun => exact ⟨_, rfl, h.request releaseRun_ignoresLink.effect hs⟩
  | listRuns => exact ⟨_, rfl, h.request listRuns_ignoresLink.effect hs⟩
  | holdAssignment => exact ⟨_, rfl, h.request holdAssignment_ignoresLink.effect hs⟩
  | releaseAssignment => exact ⟨_, rfl, h.request releaseAssignment_ignoresLink.effect hs⟩
  | swapRuns => exact ⟨_, rfl, h.request swapRuns_ignoresLink.effect hs⟩
  | assignCrossing => exact ⟨_, rfl, h.request assignCrossing_ignoresLink.effect hs⟩
  | voidSplit => exact ⟨_, rfl, h.request voidSplit_ignoresLink.effect hs⟩
  | discardCrossing => exact ⟨_, rfl, h.request discardCrossing_ignoresLink.effect hs⟩
  | readQueue => exact ⟨_, rfl, h.request readQueue_ignoresLink.effect hs⟩
  | readUnassigned => exact ⟨_, rfl, h.request readUnassigned_ignoresLink.effect hs⟩
  | manualCrossing => exact ⟨_, rfl, h.request manualCrossing_ignoresLink.effect hs⟩

/-- A step keeps what every command keeps of the Link Controller. -/
theorem step (h : LinkKept Q) {s t : State} (hs : Q s.link) (hstep : step s = .next t) : Q t.link := by
  unfold Machine.step at hstep
  split at hstep
  · cases hstep
    exact hs
  · next c rest _ =>
    obtain ⟨u, hu, hkept⟩ := h.exec c (s := { s with pending := rest }) hs
    cases hu.symm.trans hstep
    exact hkept

end LinkKept

end Sys2Proof.Machine
end

section
/-! PROOFS. The laws of the link (R124, R128, R133, R138; log entry 9) and the part's capacities and crossing ids (R35, R37,
R133, R148): what is sent stands in the buffer as the transmitter has it, and each list stays within its bound. -/

namespace Sys2Proof.Machine

/-! ## The request buffer -/

theorem length_replaceFirst (p : RequestEntry → Bool) (f : RequestEntry → RequestEntry) (b : List RequestEntry) :
    (replaceFirst p f b).length = b.length := by
  induction b with
  | nil => rfl
  | cons e es ih =>
    unfold replaceFirst
    split
    · rfl
    · exact congrArg (· + 1) ih

theorem mem_replaceFirst {p : RequestEntry → Bool} {f : RequestEntry → RequestEntry} {b : List RequestEntry}
    {e : RequestEntry} (h : e ∈ replaceFirst p f b) : e ∈ b ∨ ∃ e', e = f e' := by
  induction b with
  | nil => exact .inl h
  | cons x xs ih =>
    unfold replaceFirst at h
    split at h
    · obtain rfl | hmem := List.mem_cons.mp h
      · exact .inr ⟨x, rfl⟩
      · exact .inl (List.mem_cons_of_mem _ hmem)
    · obtain rfl | hmem := List.mem_cons.mp h
      · exact .inl List.mem_cons_self
      · exact (ih hmem).imp_left (List.mem_cons_of_mem _)

/-- Rewriting an entry that `q` does not hold of, to one that it does not hold of either. -/
theorem filter_replaceFirst {p q : RequestEntry → Bool} {f : RequestEntry → RequestEntry}
    (hp : ∀ e, p e = true → q e = false) (hf : ∀ e, q (f e) = false) (b : List RequestEntry) :
    (replaceFirst p f b).filter q = b.filter q := by
  induction b with
  | nil => rfl
  | cons e es ih =>
    unfold replaceFirst
    split
    · next hpe => simp [hp e hpe, hf e]
    · simp [List.filter_cons, ih]

theorem filter_eraseP_self {α : Type} (p : α → Bool) (l : List α) : (l.eraseP p).filter p = (l.filter p).tail := by
  induction l with
  | nil => rfl
  | cons x xs ih => cases hx : p x <;> simp [hx, ih]

theorem filter_isSending_eq_nil {b : List RequestEntry} :
    b.filter (·.isSending) = [] ↔ ∀ e ∈ b, e.isSending = false := by
  simp [List.filter_eq_nil_iff]

theorem RequestEntry.isSending_of_state {e : RequestEntry} {f : List Byte} (h : e.state = .sending f) :
    e.isSending = true := by simp [RequestEntry.isSending, h]

theorem RequestEntry.isWaiting_not_sending {e : RequestEntry} (h : e.isWaiting = true) : e.isSending = false :=
  Bool.eq_false_iff.mpr fun hs => by simp [RequestEntry.isSending_not_waiting hs] at h

/-- The first READY entry of a buffer without a SENDING one is the only SENDING entry once its reply begins (R133). -/
theorem filter_sending_beginReady {b : List RequestEntry} {f : List Byte} (hnone : b.filter (·.isSending) = [])
    (hready : b.findSome? (·.readyReply) = some f) :
    ∃ e : RequestEntry, (replaceFirst (fun e => e.readyReply.isSome) (fun e => { e with state := .sending f }) b).filter
      (·.isSending) = [{ e with state := .sending f }] := by
  induction b with
  | nil => cases hready
  | cons x xs ih =>
    obtain ⟨hx, hxs⟩ : x.isSending = false ∧ xs.filter (·.isSending) = [] := by
      rw [filter_isSending_eq_nil] at hnone ⊢
      exact List.forall_mem_cons.mp hnone
    unfold replaceFirst
    cases hrx : x.readyReply with
    | some f' =>
      refine ⟨x, ?_⟩
      rw [if_pos (by rfl), List.filter_cons_of_pos (RequestEntry.isSending_of_state rfl), hxs]
    | none =>
      obtain ⟨e, he⟩ := ih hxs (by simpa [List.findSome?_cons, hrx] using hready)
      exact ⟨e, by simpa [List.filter_cons, hx] using he⟩

/-! ## What is on TXD -/

/-- The law of what is sent (R133, R138), apart: the buffer has one SENDING entry, with the frame on TXD, exactly while the
transmitter sends its reply, and a short reply on TXD is in the slot. -/
def SendingLaw (t : Transmitter) (short : Option (List Byte)) (b : List RequestEntry) : Prop :=
  match t with
  | .bufferReply f => b.filter (·.isSending) = (b.filter (·.isSending)).take 1 ∧ ∃ e ∈ b, e.state = .sending f
  | .shortReply f => short = some f ∧ ∀ e ∈ b, e.isSending = false
  | .free | .report .. => ∀ e ∈ b, e.isSending = false

theorem LinkController.lawful_iff (l : LinkController) : l.Lawful ↔ l.buffer.length ≤ 2
    ∧ (∀ e ∈ l.buffer, e.state ≠ .executing)
    ∧ (∀ e, l.inHand = some e → e.state = .executing ∧ e.isPartReset = false)
    ∧ (l.breakHeld = true → l.receiver = .hunting) ∧ SendingLaw l.transmitter l.shortReply l.buffer := Iff.rfl

/-- The law reads the SENDING entries alone, and a short reply on TXD. -/
theorem SendingLaw.congr {t : Transmitter} {short short' : Option (List Byte)} {b b' : List RequestEntry}
    (h : SendingLaw t short b) (hshort : ∀ f, short = some f → short' = some f)
    (hb : b'.filter (·.isSending) = b.filter (·.isSending)) : SendingLaw t short' b' := by
  have hnone (hn : ∀ e ∈ b, e.isSending = false) : ∀ e ∈ b', e.isSending = false :=
    filter_isSending_eq_nil.mp (hb.trans (filter_isSending_eq_nil.mpr hn))
  cases t with
  | free | report => exact hnone h
  | shortReply f => exact ⟨hshort f h.1, hnone h.2⟩
  | bufferReply f =>
    obtain ⟨hone, e, he, hstate⟩ := h
    have hmem : e ∈ b'.filter (·.isSending) := by
      rw [hb]
      exact List.mem_filter.mpr ⟨he, RequestEntry.isSending_of_state hstate⟩
    exact ⟨hb.symm ▸ hone, e, (List.mem_filter.mp hmem).1, hstate⟩

/-! ## The laws of the link are kept -/

theorem linkKept_lawful : LinkKept fun l => l.Lawful ∧ l.receiver.Lawful where
  screen l code tag payload h := by
    obtain ⟨⟨hlen, hexec, hhand, hbreak, hsend⟩, hr⟩ := h
    have hslot (f : List Byte) (hnone : l.shortReply.isNone = true) :
        ({ l with shortReply := some f } : LinkController).Lawful :=
      ⟨hlen, hexec, hhand, hbreak, SendingLaw.congr hsend (fun _ hf => by simp [hf] at hnone) rfl⟩
    unfold LinkController.screen
    repeat' split
    case h_1.isTrue hnone => exact ⟨hslot _ hnone, hr⟩
    case h_2.isFalse.isTrue hnone => exact ⟨hslot _ hnone, hr⟩
    case h_2.isTrue hroom =>
      refine ⟨⟨?_, ?_, hhand, hbreak, SendingLaw.congr hsend (fun _ => id) ?_⟩, hr⟩
      · simpa using hroom
      · exact List.forall_mem_append.mpr ⟨hexec, by simp⟩
      · simp [RequestEntry.isSending]
    all_goals exact ⟨⟨hlen, hexec, hhand, hbreak, hsend⟩, hr⟩
  badFrames _ _ h := h
  lastCharacter _ _ h := h
  receiver l r hbreak hr h := ⟨⟨h.1.1, h.1.2.1, h.1.2.2.1, fun hb => hbreak hb (h.1.2.2.2.1 hb), h.1.2.2.2.2⟩, hr h.2⟩
  openChoice _ _ h := h
  answer l r h := by
    obtain ⟨⟨hlen, hexec, hhand, hbreak, hsend⟩, hr⟩ := h
    refine ⟨⟨(length_replaceFirst _ _ _).trans_le hlen, fun e he => ?_, hhand, hbreak,
      SendingLaw.congr hsend (fun _ => id) (filter_replaceFirst (fun _ => RequestEntry.isWaiting_not_sending)
        (fun _ => rfl) _)⟩, hr⟩
    obtain hmem | ⟨e', rfl⟩ := mem_replaceFirst he
    · exact hexec e hmem
    · nofun
  dropHand l h := ⟨⟨h.1.1, h.1.2.1, nofun, h.1.2.2.2⟩, h.2⟩
  beginShort l f hfree hshort h := by
    obtain ⟨⟨hlen, hexec, hhand, hbreak, hsend⟩, hr⟩ := h
    rw [hfree] at hsend
    exact ⟨⟨hlen, hexec, hhand, hbreak, hshort, hsend⟩, hr⟩
  beginReady l f hfree hready h := by
    obtain ⟨⟨hlen, hexec, hhand, hbreak, hsend⟩, hr⟩ := h
    rw [hfree] at hsend
    obtain ⟨e, he⟩ := filter_sending_beginReady (filter_isSending_eq_nil.mpr hsend) hready
    have hmem := List.mem_filter.mp (he.symm ▸ List.mem_singleton.mpr rfl)
    refine ⟨⟨(length_replaceFirst _ _ _).trans_le hlen, fun e he => ?_, hhand, hbreak, ?_, _, hmem.1, rfl⟩, hr⟩
    · obtain hmem | ⟨e', rfl⟩ := mem_replaceFirst he
      · exact hexec e hmem
      · nofun
    · exact he ▸ rfl
  beginReport l q f hfree h := by
    obtain ⟨⟨hlen, hexec, hhand, hbreak, hsend⟩, hr⟩ := h
    rw [hfree] at hsend
    exact ⟨⟨hlen, hexec, hhand, hbreak, hsend⟩, hr⟩
  shortSent l f hshort h := by
    obtain ⟨⟨hlen, hexec, hhand, hbreak, hsend⟩, hr⟩ := h
    rw [hshort] at hsend
    exact ⟨⟨hlen, hexec, hhand, hbreak, hsend.2⟩, hr⟩
  bufferSent l f c hsending h := by
    obtain ⟨⟨hlen, hexec, hhand, hbreak, hsend⟩, hr⟩ := h
    rw [hsending] at hsend
    refine ⟨⟨List.eraseP_sublist.length_le.trans hlen, fun e he => hexec e (List.eraseP_sublist.mem he), hhand, hbreak,
      filter_isSending_eq_nil.mp ?_⟩, hr⟩
    rw [filter_eraseP_self, hsend.1]
    cases l.buffer.filter (·.isSending) <;> rfl
  freed l hnone h := by
    obtain ⟨⟨hlen, hexec, hhand, hbreak, hsend⟩, hr⟩ := h
    refine ⟨⟨hlen, hexec, hhand, hbreak, ?_⟩, hr⟩
    obtain hnone | ⟨q, f, hreport⟩ := hnone
    · simpa using hnone
    · rwa [hreport] at hsend
  linkReset l hand hhand h := by
    refine ⟨⟨Nat.zero_le _, nofun, fun e he => ?_, fun _ => rfl, nofun⟩, trivial⟩
    obtain rfl | hnew := hhand
    · exact h.1.2.2.1 e he
    · exact hnew e he
  reset _ _ := ⟨⟨Nat.zero_le _, nofun, nofun, fun _ => rfl, nofun⟩, trivial⟩
  breakEnd l h := ⟨⟨h.1.1, h.1.2.1, h.1.2.2.1, nofun, h.1.2.2.2.2⟩, trivial⟩

/-- The request buffer holds two at most (R133), whatever else is lawful. -/
theorem linkKept_buffer : LinkKept fun l => l.buffer.length ≤ Config.bufferCapacity where
  screen l code tag payload h := by
    unfold LinkController.screen
    repeat' split
    case h_2.isTrue hroom => simpa using hroom
    all_goals exact h
  badFrames _ _ h := h
  lastCharacter _ _ h := h
  receiver _ _ _ _ h := h
  openChoice _ _ h := h
  answer _ _ h := (length_replaceFirst _ _ _).trans_le h
  dropHand _ h := h
  beginShort _ _ _ _ h := h
  beginReady _ _ _ _ h := (length_replaceFirst _ _ _).trans_le h
  beginReport _ _ _ _ h := h
  shortSent _ _ _ h := h
  bufferSent _ _ _ _ h := List.eraseP_sublist.length_le.trans h
  freed _ _ h := h
  linkReset _ _ _ _ := Nat.zero_le _
  reset _ _ := Nat.zero_le _
  breakEnd _ h := h

/-! ## The Crossing Queue -/

/-- At most 32 crossings, with consecutive ids (R35, R37). -/
def State.CrossingsLawful (s : State) : Prop :=
  s.crossings.records.length ≤ Config.crossingCapacity ∧ s.crossings.IdsConsecutive

theorem State.enterGateIdle_crossings (s : State) (g : Gate) : (s.enterGateIdle g).crossings = s.crossings := by
  rw [State.enterGateIdle_eq]

theorem State.gateEnableSample_crossings (s : State) (g : Gate) : (s.gateEnableSample g).crossings = s.crossings := by
  unfold State.gateEnableSample
  repeat' split
  case h_1.isTrue.isFalse => exact s.enterGateIdle_crossings g
  all_goals rfl

theorem State.blockedInputInactive_crossings (s : State) (g : Gate) : (s.blockedInputInactive g).crossings = s.crossings := by
  unfold State.blockedInputInactive
  repeat' split
  case h_1.isFalse => exact s.enterGateIdle_crossings g
  all_goals rfl

theorem State.edgeInHoldoff_crossings (s : State) (g : Gate) : (s.edgeInHoldoff g).crossings = s.crossings := by
  unfold State.edgeInHoldoff
  repeat' split
  all_goals rfl

theorem State.holdoffEnd_crossings (s : State) (g : Gate) : (s.holdoffEnd g).crossings = s.crossings := by
  unfold State.holdoffEnd
  repeat' split
  case h_1.isTrue.isFalse => exact s.enterGateIdle_crossings g
  all_goals rfl

theorem State.shortPulse_crossings (s : State) (g : Gate) : (s.shortPulse g).crossings = s.crossings := by
  unfold State.shortPulse
  repeat' split
  all_goals rfl

theorem State.leadingEdge_crossings (s : State) (g : Gate) : (s.leadingEdge g).crossings = s.crossings := by
  unfold State.leadingEdge
  repeat' split
  all_goals rfl

theorem State.gateAlarmBlocked_crossings (s : State) (g : Gate) : (s.gateAlarmBlocked g).crossings = s.crossings := by
  unfold State.gateAlarmBlocked
  repeat' split
  all_goals rfl

theorem CrossingQueue.IdsConsecutive.append {q : CrossingQueue} (h : q.IdsConsecutive) (g : Gate) (t : Tick)
    (src : CrossingSource) :
    CrossingQueue.IdsConsecutive ⟨q.records ++ [⟨q.nextId, g, t, src⟩], q.nextId + 1⟩ := by
  intro i hi
  simp only [List.length_append, List.length_cons, List.length_nil, Nat.zero_add] at hi ⊢
  by_cases hlast : i < q.records.length
  · have hnext : BitVec.ofNat 32 (q.records.length + 1 - i) = BitVec.ofNat 32 (q.records.length - i) + 1 := by
      rw [show q.records.length + 1 - i = q.records.length - i + 1 by omega, BitVec.ofNat_add]
      rfl
    rw [List.getElem_append_left hlast, ← h i hlast, hnext, BitVec.add_assoc]
  · obtain rfl : i = q.records.length := by omega
    simp

theorem CrossingQueue.IdsConsecutive.tail {c : Crossing} {rest : List Crossing} {next : Tick}
    (h : CrossingQueue.IdsConsecutive ⟨c :: rest, next⟩) : CrossingQueue.IdsConsecutive ⟨rest, next⟩ := by
  intro i hi
  have hnext := h (i + 1) (Nat.succ_lt_succ hi)
  simpa [List.getElem_cons_succ] using hnext

namespace State.CrossingsLawful

variable {s : State}

theorem of_crossings {t : State} (h : s.CrossingsLawful) (ht : t.crossings = s.crossings) : t.CrossingsLawful := by
  rw [CrossingsLawful, ht]
  exact h

theorem append (h : s.CrossingsLawful) (hroom : s.crossings.records.length < Config.crossingCapacity) (g : Gate)
    (t : Tick) (src : CrossingSource) : (s.appendCrossing g t src).CrossingsLawful := by
  rw [State.appendCrossing_eq]
  exact ⟨by simpa using hroom, h.2.append g t src⟩

theorem offer (h : s.CrossingsLawful) (g : Gate) (t : Tick) : (s.offerCrossing g t).CrossingsLawful := by
  unfold State.offerCrossing
  dsimp only
  split
  · next hroom => exact append (s := s.setCounters g _) h hroom g t .sensor
  · exact h

theorem enterGateIdle (h : s.CrossingsLawful) (g : Gate) : (s.enterGateIdle g).CrossingsLawful := by
  rw [State.enterGateIdle_eq]
  exact h

theorem settleAcceptance (h : s.CrossingsLawful) (g : Gate) (t : Tick) (stale : Bool) :
    (s.settleAcceptance g t stale).CrossingsLawful := by
  unfold State.settleAcceptance
  split
  · exact h
  · split
    · exact h.offer g t
    · exact h.offer g t
    · split
      · exact (h.of_crossings (t := s.triggeredStart g) (State.clockStartEvent_change _ _).crossings).offer g 0
      · exact h
    all_goals exact h

theorem acceptance (h : s.CrossingsLawful) (g : Gate) : (s.acceptance g).CrossingsLawful := by
  unfold State.acceptance
  split
  · next t e stale _ =>
    split
    · exact settleAcceptance (s := s.setPhase g (s.afterAcceptance g e)) h g t stale
    · exact h
  all_goals exact h

theorem settleGate (h : s.CrossingsLawful) (g : Gate) : (s.settleGate g).CrossingsLawful := by
  have hbefore : ((((s.gateEnableSample g).blockedInputInactive g).edgeInHoldoff g).holdoffEnd g).shortPulse g
      |>.CrossingsLawful := by
    refine h.of_crossings ?_
    rw [State.shortPulse_crossings, State.holdoffEnd_crossings, State.edgeInHoldoff_crossings,
      State.blockedInputInactive_crossings, State.gateEnableSample_crossings]
  refine (hbefore.acceptance g).of_crossings ?_
  rw [State.settleGate, State.gateAlarmBlocked_crossings, State.leadingEdge_crossings]

theorem clockLimit (h : s.CrossingsLawful) : s.clockLimit.CrossingsLawful := by
  unfold State.clockLimit
  split <;> exact h

theorem haltEnd (h : s.CrossingsLawful) : s.haltEnd.CrossingsLawful := by
  unfold State.haltEnd
  repeat' split
  all_goals exact h

theorem settle (h : s.CrossingsLawful) : s.settle.CrossingsLawful :=
  State.settle_keeps (P := State.CrossingsLawful) (fun _ => clockLimit) (fun _ => haltEnd) (fun _ g h => h.settleGate g)
    (fun s h => h.of_crossings s.examineDeadlines_change.crossings)
    (fun s h => h.of_crossings s.retryTimerExpiry_sameRace.crossings)
    (fun s h => h.of_crossings s.keepaliveExpiry_sameRace.crossings) (fun _ _ h => h) h

end State.CrossingsLawful

theorem State.tick_crossings (s : State) (levels : Byte) : (s.tick levels).crossings = s.crossings := rfl

theorem raceKept_crossings : RaceKept State.CrossingsLawful where
  sameRace _ _ hst h := h.of_crossings hst.crossings
  clockLimit _ h := h.clockLimit
  haltEnd _ h := h.haltEnd
  gateEnableSample s g h := h.of_crossings (s.gateEnableSample_crossings g)
  blockedInputInactive s g h := h.of_crossings (s.blockedInputInactive_crossings g)
  edgeInHoldoff s g h := h.of_crossings (s.edgeInHoldoff_crossings g)
  holdoffEnd s g h := h.of_crossings (s.holdoffEnd_crossings g)
  shortPulse s g h := h.of_crossings (s.shortPulse_crossings g)
  acceptance _ g h := h.acceptance g
  leadingEdge s g h := h.of_crossings (s.leadingEdge_crossings g)
  gateAlarmBlocked s g h := h.of_crossings (s.gateAlarmBlocked_crossings g)
  taken s c rest hc h := by
    obtain ⟨hlen, hids⟩ := h
    rw [show s.crossings = ⟨c :: rest, s.crossings.nextId⟩ by rw [← hc]] at hids
    rw [hc] at hlen
    exact ⟨Nat.le_of_succ_le hlen, hids.tail⟩
  tickInstant _ levels h := h.settle.of_crossings (State.tick_crossings _ levels)
  disableGate _ _ _ _ _ h := h
  enableGate s _ a _ _ h := by
    unfold State.enableGate
    repeat' split
    all_goals exact h
  readGate s a h := by
    unfold State.readGate
    split <;> exact h
  armClock s g h := by
    unfold State.armClock
    repeat' split
    all_goals exact h
  disarmClock s u h := by
    unfold State.disarmClock
    split <;> exact h
  startClock s preset h := by
    unfold State.startClock
    split
    · exact h.of_crossings (State.clockStartEvent_change _ _).crossings
    all_goals exact h
  haltClock s u h := by
    unfold State.haltClock
    split <;> exact h
  resumeClock s u h := by
    unfold State.resumeClock
    repeat' split
    all_goals exact h
  manualCrossing s a h := by
    unfold State.manualCrossing
    split
    case h_1 | h_2 => exact h
    all_goals
      split
      · exact h
      · split
        · exact h
        · next hroom => exact h.append (Nat.not_le.mp hroom) a.1 a.2 .manual

theorem kept_crossings : Kept State.CrossingsLawful where
  toKeptByWork := .of_race raceKept_crossings
  clearClock s u h := by
    obtain hsame | ⟨hidle | hhalted, -, hclear⟩ := s.clearClock_cases u
    · exact hsame.symm ▸ h
    · rw [hclear, State.clear_idle hidle]
      exact h
    · rw [hclear, State.clear_halted hhalted]
      exact h
  inert _ _ := ⟨Nat.zero_le _, nofun⟩
  externalReset _ _ _ := ⟨Nat.zero_le _, nofun⟩
  partReset _ _ := ⟨Nat.zero_le _, nofun⟩

/-! ## The Unassigned List -/

/-- At most 16 unassigned entries (R37). -/
def State.UnassignedBounded (s : State) : Prop := s.tracker.unassigned.length ≤ Config.unassignedCapacity

namespace State.UnassignedBounded

variable {s : State}

theorem of_eq {t : State} (h : s.UnassignedBounded) (ht : t.tracker.unassigned = s.tracker.unassigned) :
    t.UnassignedBounded := by
  rw [UnassignedBounded, ht]
  exact h

/-- With 16 held the oldest leaves first (R103). -/
theorem fileCrossing (h : s.UnassignedBounded) (c : Crossing) (why : FilingReason) :
    (s.fileCrossing c why).UnassignedBounded := by
  unfold UnassignedBounded State.fileCrossing at *
  split
  · next oldest rest heq =>
    rw [heq] at h
    split
    · next hroom => simpa [heq] using Nat.succ_le_of_lt hroom
    · simpa using h
  · next heq => simp [heq]

end State.UnassignedBounded

theorem State.endOverTime_unassigned (s : State) (i : Slot) :
    (s.endOverTime i).tracker.unassigned = s.tracker.unassigned := by
  unfold State.endOverTime
  split <;> rfl

theorem State.startRun_unassigned (s : State) (i : Slot) (o : SplitOrigin) (t : Tick) (host : Bool) :
    (s.startRun i o t host).tracker.unassigned = s.tracker.unassigned := by
  unfold State.startRun
  split <;> rfl

theorem State.advance_unassigned (s : State) (i : Slot) (c : Crossing) (host : Bool) :
    (s.advance i c host).tracker.unassigned = s.tracker.unassigned := by
  unfold State.advance State.addSplit
  split
  · split
    · exact s.startRun_unassigned _ _ _ _
    · split
      · dsimp only
        split <;> rfl
      · rfl
  · rfl

/-- What each element of a fold leaves as it is, the fold leaves. -/
theorem foldl_unassigned {β : Type} {f : State → β → State}
    (hf : ∀ s b, (f s b).tracker.unassigned = (s : State).tracker.unassigned) (bs : List β) (s : State) :
    (bs.foldl f s).tracker.unassigned = s.tracker.unassigned := by
  induction bs generalizing s with
  | nil => rfl
  | cons b bs ih => exact (ih _).trans (hf s b)

theorem State.examineDeadlines_unassigned (s : State) :
    s.examineDeadlines.tracker.unassigned = s.tracker.unassigned :=
  foldl_unassigned State.endOverTime_unassigned _ s

theorem State.groupStart_unassigned (s : State) (t : Tick) :
    (s.groupStart t).tracker.unassigned = s.tracker.unassigned :=
  (State.examineDeadlines_unassigned _).trans (foldl_unassigned (fun s i => s.startRun_unassigned i _ _ _) _ s)

theorem trackerKept_unassigned : TrackerKept State.UnassignedBounded where
  sameTracker _ _ hst h := h.of_eq hst.unassigned
  reset s hs := by
    rw [State.UnassignedBounded, hs]
    exact Nat.zero_le _
  clockStartEvent s t h := by
    unfold State.clockStartEvent
    repeat' split
    case h_1.isTrue => exact h.of_eq (s.groupStart_unassigned t)
    all_goals exact h
  examineDeadlines s h := h.of_eq s.examineDeadlines_unassigned
  place s c h := by
    unfold State.place
    split
    · exact h.fileCrossing c _
    · split
      · have hended := foldl_unassigned (f := State.endOverdueHeads c.time)
          (fun s k => foldl_unassigned State.endOverTime_unassigned _ s)
        dsimp only
        split
        · exact (h.of_eq (hended _ s)).of_eq (State.advance_unassigned _ _ _ _)
        · exact (h.of_eq (hended _ s)).fileCrossing c _
      · exact h.fileCrossing c _
  cleared _ _ := Nat.zero_le _
  setCourse s _ c _ h := by
    unfold State.setCourse
    repeat' split
    all_goals exact h
  stageRun s n h := by
    unfold State.stageRun
    repeat' split
    all_goals exact h
  withdrawRun s n h := by
    unfold State.withdrawRun
    repeat' split
    all_goals exact h
  startGroup s t h := by
    unfold State.startGroup
    repeat' split
    case isFalse => exact h.of_eq (s.groupStart_unassigned _)
    all_goals exact h
  releaseRun s n h := by
    unfold State.releaseRun
    repeat' split
    all_goals exact h
  swapRuns s a h := by
    unfold State.swapRuns
    repeat' split
    all_goals exact h
  assignCrossing s a h := by
    have hremoved : (s.removeEntry a.1).UnassignedBounded := List.eraseP_sublist.length_le.trans h
    unfold State.assignCrossing
    split
    · exact h
    · next e _ =>
      split
      · exact h
      · next j r _ =>
        split
        · exact h
        · have hadvanced := hremoved.of_eq (State.advance_unassigned _ j e.crossing true)
          dsimp only
          split
          · exact (hadvanced.of_eq (t := State.markCorrected _ j) rfl).of_eq (State.examineDeadlines_unassigned _)
          · exact hadvanced
  voidSplit s n h := by
    unfold State.voidSplit
    split
    · exact h
    · next i r _ =>
      split
      · exact h
      · exact h
      · next sp _ _ =>
        unfold State.voidLast
        cases sp.crossing? with
        | none => exact h
        | some c =>
          exact State.UnassignedBounded.fileCrossing
            (s := ((s.dequeue i).joinHead (r.splits.length - 1) i).setRun i (some (r.voided (r.splits.length - 1))))
            h c .voided
  discardCrossing s id h := by
    unfold State.discardCrossing
    split
    · exact h
    · exact List.eraseP_sublist.length_le.trans h

/-! ## The Report Queue -/

/-- At most 48 reports (R148). -/
def Session.ReportsBounded (ss : Session) : Prop := ss.reports.length ≤ Config.reportCapacity

theorem Session.ReportsBounded.store {ss : Session} (h : ss.ReportsBounded) (t : Tick) (b : ReportBody) :
    (ss.store t b).ReportsBounded := by
  unfold Session.ReportsBounded Session.store at *
  split
  · next hroom => simpa using hroom
  · exact h

theorem OnlyStores.reportsBounded {s t : State} (h : OnlyStores s t) (hs : s.session.ReportsBounded) :
    t.session.ReportsBounded := by
  obtain ⟨hstored⟩ := h
  generalize t.session = ss at hstored
  induction hstored with
  | refl => exact hs
  | tail _ hstore ih =>
    obtain ⟨_, _, rfl⟩ := hstore
    exact ih.store _ _

/-- An ack takes the oldest reports away (R151). -/
theorem Session.ReportsBounded.arrival {ss : Session} (h : ss.ReportsBounded) (now : Instant) (ack : Word) :
    (ss.arrival now ack).ReportsBounded := by
  have happly (ss : Session) (h : ss.ReportsBounded) : (ss.applyAck now ack).ReportsBounded := by
    unfold Session.applyAck
    split
    · exact ((List.tail_sublist _).trans (List.dropWhile_sublist _)).length_le.trans h
    · exact h
  unfold Session.arrival
  split
  · exact h
  · exact happly _ h
  · exact happly _ h

theorem Session.ReportsBounded.recall {ss : Session} (h : ss.ReportsBounded) :
    (recallReports ss.reports).length ≤ Config.reportCapacity := (length_recallReports _).trans_le h

theorem State.leaveSession_reportsBounded {s : State} (h : s.session.ReportsBounded) (next : SessionState)
    (why : ReleaseCause) : (s.leaveSession next why).session.ReportsBounded := by
  unfold State.leaveSession
  dsimp only
  split
  · exact (State.departure_stores _ _).reportsBounded h.recall
  · exact h.recall

theorem State.retryTimerExpiry_reportsBounded {s : State} (h : s.session.ReportsBounded) :
    s.retryTimerExpiry.session.ReportsBounded := by
  unfold State.retryTimerExpiry
  split
  · dsimp only
    split
    · exact h.recall
    · rw [State.enterSilent, State.leaveSession_goBack]
      exact State.leaveSession_reportsBounded h _ _
  · exact h

theorem State.keepaliveExpiry_reportsBounded {s : State} (h : s.session.ReportsBounded) :
    s.keepaliveExpiry.session.ReportsBounded := by
  unfold State.keepaliveExpiry
  split
  · exact State.leaveSession_reportsBounded h _ _
  · exact h

theorem State.settle_reportsBounded {s : State} (h : s.session.ReportsBounded) : s.settle.session.ReportsBounded :=
  State.settle_keeps (P := fun s => s.session.ReportsBounded) (fun s => s.clockLimit_stores.reportsBounded)
    (fun s => s.haltEnd_stores.reportsBounded) (fun s g => (s.settleGate_stores g).reportsBounded)
    (fun s => s.examineDeadlines_change.stores.reportsBounded) (fun _ => State.retryTimerExpiry_reportsBounded)
    (fun _ => State.keepaliveExpiry_reportsBounded) (fun _ _ h => h) h

theorem kept_reportsBounded : Kept fun s => s.session.ReportsBounded where
  link _ _ h := h
  meet _ h := h
  arrival _ now ack h := h.arrival now ack
  markInFlight _ _ _ h := (List.length_map _).trans_le h
  goBack _ _ h := h.recall
  leaveSession _ next why h := State.leaveSession_reportsBounded h next why
  openSession s a h := by
    unfold State.openSession Session.openWith Session.ReportsBounded
    dsimp only [State.setSession_session]
    split
    · exact Nat.zero_le _
    · exact h.recall
  clockLimit s h := s.clockLimit_stores.reportsBounded h
  haltEnd s h := s.haltEnd_stores.reportsBounded h
  gateEnableSample s g h := (s.gateEnableSample_stores g).reportsBounded h
  blockedInputInactive s g h := (s.blockedInputInactive_stores g).reportsBounded h
  edgeInHoldoff s g h := (s.edgeInHoldoff_stores g).reportsBounded h
  holdoffEnd s g h := (s.holdoffEnd_stores g).reportsBounded h
  shortPulse s g h := (s.shortPulse_stores g).reportsBounded h
  acceptance s g h := (s.acceptance_stores g).reportsBounded h
  leadingEdge s g h := (s.leadingEdge_stores g).reportsBounded h
  gateAlarmBlocked s g h := (s.gateAlarmBlocked_stores g).reportsBounded h
  examineDeadlines s h := s.examineDeadlines_change.stores.reportsBounded h
  take s h := s.take_stores.reportsBounded h
  tickInstant s levels h := (State.tick_stores _ levels).reportsBounded (State.settle_reportsBounded h)
  disableGate _ _ _ _ _ h := h
  enableGate s _ a _ _ h := (s.enableGate_stores a).reportsBounded h
  readGate s a h := (s.readGate_stores a).reportsBounded h
  armClock s g h := (s.armClock_stores g).reportsBounded h
  disarmClock s u h := (s.disarmClock_stores u).reportsBounded h
  startClock s preset h := (s.startClock_stores preset).reportsBounded h
  haltClock s u h := (s.haltClock_stores u).reportsBounded h
  resumeClock s u h := (s.resumeClock_stores u).reportsBounded h
  setCourse s _ c _ h := (s.setCourse_stores c).reportsBounded h
  stageRun s n h := (s.stageRun_stores n).reportsBounded h
  withdrawRun s n h := (s.withdrawRun_stores n).reportsBounded h
  startGroup s t h := (s.startGroup_stores t).reportsBounded h
  releaseRun s n h := (s.releaseRun_stores n).reportsBounded h
  holdAssignment s u h := (s.holdAssignment_stores u).reportsBounded h
  releaseAssignment _ _ h := h
  swapRuns s a h := (s.swapRuns_stores a).reportsBounded h
  assignCrossing s a h := (s.assignCrossing_stores a).reportsBounded h
  voidSplit s n h := (s.voidSplit_stores n).reportsBounded h
  discardCrossing s id h := (s.discardCrossing_stores id).reportsBounded h
  manualCrossing s a h := (s.manualCrossing_stores a).reportsBounded h
  clearClock s u h := (s.clearClock_stores u).reportsBounded h
  inert _ _ := Nat.zero_le _
  externalReset _ _ _ := by simp [State.externalReset, State.reset, Session.reset, Session.ReportsBounded]
  partReset _ _ := by simp [State.partReset, Session.reset, Session.ReportsBounded]

/-- Settles O58: what is done to the Link Controller keeps the laws of the link; the capacities are kept one by one. -/
theorem linkAndCapacityLawsKept : Obligations.LinkAndCapacityLawsKept := by
  refine ⟨fun s t hlink hreceiver hstep => linkKept_lawful.step ⟨hlink, hreceiver⟩ hstep, fun s t hcap hids hstep => ?_⟩
  obtain ⟨hcrossings, hunassigned, hreports, hbuffer⟩ := hcap
  have hcrossings' := kept_crossings.step (fun _ _ h => h) ⟨hcrossings, hids⟩ hstep
  have hunassigned' := (Kept.of_tracker trackerKept_unassigned).step (fun _ _ h => h) hunassigned hstep
  have hreports' := kept_reportsBounded.step (fun _ _ h => h) hreports hstep
  exact ⟨⟨hcrossings'.1, hunassigned', hreports', linkKept_buffer.step hbuffer hstep⟩, hcrossings'.2⟩

end Sys2Proof.Machine
end

section
/-! PROOFS. The steps of the Gate Units (R6, R18, R19, R22 to R31): one equation for each step of a gate in each of its states,
and the commands as uses of them. -/

namespace Sys2Proof.Machine

/-- A command that is taken by the step `f` while RSTn is high. -/
theorem next_live {s t : State} {f : State → State} (hl : s.pins.resetLow = false) (hf : f s = t) :
    (.next (s.live f) : Host.Outcome State Fault Refusal) = .next t :=
  congrArg _ ((State.live_high hl f).trans hf)

/-! ## Edges and short pulses -/

theorem Polarity.isActive_iff (p : Polarity) (level : Bool) :
    p.isActive level = true ↔ (p = .activeHigh ∧ level = true) ∨ (p = .activeLow ∧ level = false) := by
  cases p <;> simp [Polarity.isActive]

theorem State.leadingEdge_idle {s : State} {g : Gate} (hp : (s.gate g).phase = .idle) (ha : s.sampleActive g = true) :
    s.leadingEdge g = s.setPhase g (.qualifying s.clock.count s.instant (decide (s.clock.state = .idle))) := by
  simp [State.leadingEdge, hp, ha]

theorem State.shortPulse_qualifying {s : State} {g : Gate} {t : Tick} {e : Instant} {stale : Bool}
    (hp : (s.gate g).phase = .qualifying t e stale) (he : e < s.instant) (ha : s.sampleActive g = false) :
    s.shortPulse g = s.setGate g { s.gate g with
      phase := .idle
      counters := { (s.gate g).counters with short := (s.gate g).counters.short.saturatingSucc } } := by
  simp [State.shortPulse, hp, he, ha, State.setPhase, State.setCounters]

/-- Settles O5: the polarities by cases, and the two steps by their equations. -/
theorem edgesAndShortPulses : Obligations.EdgesAndShortPulses := by
  refine ⟨fun s g => Polarity.isActive_iff _ _, fun s g hl hp ha => ?_, fun s g t e stale hl hp he ha => ?_⟩
  · exact next_live hl (State.leadingEdge_idle hp ha)
  · exact next_live hl (State.shortPulse_qualifying hp he ha)

/-! ## Acceptance -/

theorem State.acceptance_qualifying {s : State} {g : Gate} {t : Tick} {e : Instant} {stale : Bool} {p : GatePhase}
    (hphase : (s.gate g).phase = .qualifying t e stale) (ha : s.sampleActive g = true)
    (he : e + (s.gate g).config.qualifyWidth.toNat ≤ s.instant)
    (hp : p = if (s.gate g).config.holdoff.toNat = 0 then .blocked e
      else .holdoff (s.instant + 100 * (s.gate g).config.holdoff.toNat) e) :
    s.acceptance g = (s.setPhase g p).settleAcceptance g t stale := by
  rw [hp, ← State.afterAcceptance_eq]
  simp [State.acceptance, hphase, ha, he]

theorem State.settleAcceptance_counting {s : State} {g : Gate} {t : Tick} (hc : s.clock.state.counting = true) :
    s.settleAcceptance g t false = s.offerCrossing g t := by
  cases hs : s.clock.state with
  | running | halting target => simp [State.settleAcceptance, hs]
  | idle | armed _ | halted => simp [hs, ClockState.counting] at hc

/-- An ignored acceptance counts itself and does nothing else (R7, R26). -/
theorem State.settleAcceptance_ignored {s : State} {g : Gate} {t : Tick} {stale : Bool}
    (h : stale = true ∨ s.clock.state = .idle ∨ s.clock.state = .halted ∨ ∃ h, s.clock.state = .armed h ∧ h ≠ g) :
    s.settleAcceptance g t stale = s.ignoreAcceptance g := by
  unfold State.settleAcceptance
  obtain rfl | hs | hs | ⟨trigger, hs, hne⟩ := h
  · rfl
  all_goals simp [hs]
  simp [hne]

theorem State.settleAcceptance_trigger {s : State} {g : Gate} {t : Tick} (hs : s.clock.state = .armed g) :
    s.settleAcceptance g t false = (s.triggeredStart g).offerCrossing g 0 := by
  simp [State.settleAcceptance, hs]

/-- A crossing offered by a gate that has just changed its state, with room in the queue (R27). -/
theorem State.setPhase_offerCrossing_room {s : State} (g : Gate) (p : GatePhase) (t : Tick)
    (h : s.crossings.records.length < 32) : (s.setPhase g p).offerCrossing g t = { s with
      gates := s.gates.set g { s.gate g with
        phase := p
        counters := { (s.gate g).counters with accepted := (s.gate g).counters.accepted.saturatingSucc } }
      crossings := ⟨s.crossings.records ++ [⟨s.crossings.nextId, g, t, .sensor⟩], s.crossings.nextId + 1⟩
      session :=
        if (s.gate g).config.rawReport then
          s.session.store s.clock.count (.crossing ⟨s.crossings.nextId, g, t, .sensor⟩)
        else s.session } := by
  rw [State.offerCrossing_room (s := s.setPhase g p) g t h]
  simp only [State.setPhase, State.gate_setGate_same, State.setGate_gates, Vector.set_set]
  rfl

/-- The same with 32 crossings held (R38). -/
theorem State.setPhase_offerCrossing_full {s : State} (g : Gate) (p : GatePhase) (t : Tick)
    (h : 32 ≤ s.crossings.records.length) : (s.setPhase g p).offerCrossing g t = { s with
      gates := s.gates.set g { s.gate g with
        phase := p
        counters := { (s.gate g).counters with lost := (s.gate g).counters.lost.saturatingSucc } }
      session := s.session.store s.clock.count (.crossingLost g t) } := by
  rw [State.offerCrossing_full (s := s.setPhase g p) g t h]
  simp only [State.setPhase, State.gate_setGate_same, State.setGate_gates, Vector.set_set]
  rfl

/-- Settles O6: the settlement of an acceptance by the clock state, and a crossing offered to a queue with room or without. -/
theorem acceptanceCountedOrIgnored : Obligations.AcceptanceCountedOrIgnored := by
  refine ⟨fun s g t e p hl hphase ha he hc hp => ?_, fun s g t e stale p hl hphase ha he hwhy hp => ?_⟩
  · have hexec : exec (.acceptance g) s = .next ((s.setPhase g p).offerCrossing g t) := next_live hl <|
      (State.acceptance_qualifying hphase ha he hp).trans (State.settleAcceptance_counting hc)
    exact ⟨fun hroom => hexec.trans (congrArg _ (State.setPhase_offerCrossing_room g p t hroom)),
      fun hfull => hexec.trans (congrArg _ (State.setPhase_offerCrossing_full g p t hfull))⟩
  · have hexec : exec (.acceptance g) s = .next ((s.setPhase g p).ignoreAcceptance g) := next_live hl <|
      (State.acceptance_qualifying hphase ha he hp).trans (State.settleAcceptance_ignored hwhy)
    rw [hexec]
    simp [State.ignoreAcceptance, State.setCounters, State.setPhase, State.setGate, State.gate]

/-! ## Acceptance at the trigger gate -/

theorem foldl_setGate {β : Type} (f : State → β → State) (g : Gate) (u : GateUnit)
    (hf : ∀ s b, f (State.setGate s g u) b = (f s b).setGate g u) (bs : List β) (s : State) :
    bs.foldl f (s.setGate g u) = (bs.foldl f s).setGate g u := by
  induction bs generalizing s with
  | nil => rfl
  | cons b bs ih => simp only [List.foldl_cons, hf, ih]

theorem State.startRun_setGate (s : State) (g : Gate) (u : GateUnit) (i : Slot) (o : SplitOrigin) (t : Tick) (h : Bool) :
    (s.setGate g u).startRun i o t h = (s.startRun i o t h).setGate g u := by
  unfold State.startRun
  simp only [State.run_setGate]
  split <;> rfl

theorem State.endOverTime_setGate (s : State) (g : Gate) (u : GateUnit) (i : Slot) :
    (s.setGate g u).endOverTime i = (s.endOverTime i).setGate g u := by
  unfold State.endOverTime
  simp only [State.run_setGate]
  split <;> rfl

/-- The clock-start event neither reads nor writes the gates. -/
theorem State.clockStartEvent_setGate (s : State) (g : Gate) (u : GateUnit) (t : Tick) :
    (s.setGate g u).clockStartEvent t = (s.clockStartEvent t).setGate g u := by
  have hgroup : (s.setGate g u).groupStart t = (s.groupStart t).setGate g u := by
    unfold State.groupStart State.examineDeadlines
    rw [State.queue_setGate, foldl_setGate _ g u fun s i => s.startRun_setGate g u i .group t false]
    exact foldl_setGate _ g u (fun s i => s.endOverTime_setGate g u i) _ _
  unfold State.clockStartEvent
  simp only [State.setGate_tracker, State.queue_setGate, hgroup]
  split
  · split <;> rfl
  · rfl

/-- Settles O7: the start at the width of the gate, whose own change of state the clock-start event does not see. -/
theorem acceptanceStartsTheArmedClock : Obligations.AcceptanceStartsTheArmedClock := by
  intro s u g t w e p hl hphase ha he hs hp hw hu
  have hchange := State.clockStartEvent_change { s with
    clock := ⟨.running, w⟩, session := s.session.store w (.clockState .running .trigger) } 0
  rw [← hu] at hchange
  have hgate : u.gate g = s.gate g := by rw [State.gate, hchange.gates]; rfl
  have hstart : (s.setPhase g p).triggeredStart g = u.setPhase g p := by
    have hchanged : (s.setPhase g p).changeClock .running (((s.setPhase g p).gate g).config.qualifyWidth.setWidth 32)
        .trigger = State.setGate { s with
          clock := ⟨.running, w⟩, session := s.session.store w (.clockState .running .trigger) } g
            { s.gate g with phase := p } := by
      rw [hw, BitVec.ofNat_toNat, State.setPhase, State.gate_setGate_same]
      rfl
    rw [State.triggeredStart, hchanged, State.clockStartEvent_setGate, ← hu, State.setPhase, hgate]
  have hexec : exec (.acceptance g) s = .next ((u.setPhase g p).offerCrossing g 0) := by
    refine next_live hl ((State.acceptance_qualifying hphase ha he hp).trans ?_)
    rw [State.settleAcceptance_trigger (s := s.setPhase g p) hs, hstart]
  have hgates : u.gates = s.gates := hchange.gates
  have hcrossings : u.crossings = s.crossings := hchange.crossings
  have hclock : u.clock.count = w := by rw [hchange.clock]
  refine ⟨fun hroom => ?_, fun hfull => ?_⟩
  · rw [hexec, State.setPhase_offerCrossing_room g p 0 (hcrossings.symm ▸ hroom), hgates, hgate, hcrossings, hclock]
  · rw [hexec, State.setPhase_offerCrossing_full g p 0 (hcrossings.symm ▸ hfull), hgates, hgate, hclock]

/-! ## HOLDOFF and BLOCKED -/

theorem State.edgeInHoldoff_edge {s : State} {g : Gate} {till mark : Instant} (hp : (s.gate g).phase = .holdoff till mark)
    (ha : s.sampleActive g = true) (hprior : s.priorActive g = false) :
    s.edgeInHoldoff g = s.setPhase g (.holdoff till s.instant) := by
  simp [State.edgeInHoldoff, hp, State.edgeSampled, ha, hprior]

theorem State.holdoffEnd_inactive {s : State} {g : Gate} {till mark : Instant}
    (hp : (s.gate g).phase = .holdoff till mark) (ht : till ≤ s.instant) (ha : s.sampleActive g = false) :
    s.holdoffEnd g = s.enterGateIdle g := by
  simp [State.holdoffEnd, hp, ht, ha]

theorem State.holdoffEnd_active {s : State} {g : Gate} {till mark : Instant}
    (hp : (s.gate g).phase = .holdoff till mark) (ht : till ≤ s.instant) (ha : s.sampleActive g = true) :
    s.holdoffEnd g = s.setPhase g (.blocked (if s.priorActive g then mark else s.instant)) := by
  simp [State.holdoffEnd, hp, ht, ha]

theorem State.blockedInputInactive_inactive {s : State} {g : Gate} {mark : Instant}
    (hp : (s.gate g).phase = .blocked mark) (ha : s.sampleActive g = false) :
    s.blockedInputInactive g = s.enterGateIdle g := by
  simp [State.blockedInputInactive, hp, ha]

theorem State.gateAlarmBlocked_due_alarm {s : State} {g : Gate} {mark : Instant}
    (hp : (s.gate g).phase.activeSince = some mark) (ha : s.sampleActive g = true) (hprior : s.priorActive g = true)
    (ht : mark + 10000 * (s.gate g).config.blockAlarmTime.toNat ≤ s.instant) (hr : (s.gate g).alarmRaised = false) :
    s.gateAlarmBlocked g = (s.setGate g { s.gate g with alarmRaised := true }).report (.gateAlarm g .blocked) := by
  unfold State.gateAlarmBlocked
  rw [hp]
  exact if_pos ⟨ha, .inl hprior, ht, hr⟩

/-- Settles O8: the equations of the steps, under the conditions in which each arises. -/
theorem holdoffAndBlockedSteps : Obligations.HoldoffAndBlockedSteps := by
  refine ⟨fun s g till mark hl hp => ⟨fun ha hprior => ?_, fun ht ha => ?_, fun ht ha => ?_⟩,
    fun s g mark hl hp ha => ?_, fun s g mark hl hp ha hprior ht hr => ?_⟩
  · exact next_live hl (State.edgeInHoldoff_edge hp ha hprior)
  · exact next_live hl ((State.holdoffEnd_inactive hp ht ha).trans (s.enterGateIdle_eq g))
  · exact next_live hl (State.holdoffEnd_active hp ht ha)
  · exact next_live hl ((State.blockedInputInactive_inactive hp ha).trans (s.enterGateIdle_eq g))
  · refine next_live hl (State.gateAlarmBlocked_due_alarm (mark := mark) ?_ ha hprior ht hr)
    obtain hp | ⟨till, hp⟩ := hp <;> rw [hp] <;> rfl

/-! ## SET GATE -/

/-- A request that is both of a code and of the kind that `mine` names: the step is its act, and the reply. -/
theorem State.live_serve_acts_of {α : Type} {s t : State} {code tag : Byte} {p : List Byte} {mine : RequestEntry → Bool}
    {parse : List Byte → Option α} {act : State → α → State × Response} {a : α} {r : Response}
    (hact : ActsBeside act s) (hn : s.NextIs code tag p) (hm : mine ⟨code, tag, p, .waiting⟩ = true)
    (hf : payloadFits code p = some true) (hc : s.session.state ≠ .closed) (hp : parse p = some a)
    (ha : act s a = (t, r)) : s.live (·.serve mine parse act) = t.setLink (s.link.answer r) := by
  simp only [State.live_serve hact hn hm hf (.inl hc), hp, ha]

theorem State.live_serve_badValue_of {α : Type} {s : State} {code tag : Byte} {p : List Byte}
    {mine : RequestEntry → Bool} {parse : List Byte → Option α} {act : State → α → State × Response}
    (hact : ActsBeside act s) (hn : s.NextIs code tag p) (hm : mine ⟨code, tag, p, .waiting⟩ = true)
    (hf : payloadFits code p = some true) (hc : s.session.state ≠ .closed) (hp : parse p = none) :
    s.live (·.serve mine parse act) = s.setLink (s.link.answer (.refuse .badValue)) := by
  simp only [State.live_serve hact hn hm hf (.inl hc), hp]

/-- A SET GATE whose enabled byte is neither 0 nor 1 is refused, as is one with another field out of range (R18, R163). -/
theorem parseSetGate_enabled_outOfRange {bg en pol q h b raw : Byte} (hen : 1 < en.toNat) :
    parseSetGate [bg, en, pol, q, h, b, raw] = none := by
  unfold parseSetGate
  cases parseGate bg <;> simp [parseYesNo_none hen]

/-- Settles O9: SET_GATE_DISABLE by what the payload parses to. -/
theorem setGateDisables : Obligations.SetGateDisables := by
  intro s tag bg en pol q h b raw hc hen hn
  have hmine : (codeIs 0x10 ⟨0x10, tag, [bg, en, pol, q, h, b, raw], .waiting⟩
      && enabledField [bg, en, pol, q, h, b, raw] != some 1) = true := by
    simpa [enabledField] using hen
  refine ⟨?_, fun hout => congrArg Host.Outcome.next (State.live_serve_badValue_of
    (disableGate_ignoresLink.beside s) hn hmine rfl hc ?_)⟩
  · rintro g cfg rfl rfl hoff hpol hq h1 h2 h3 h4 h5 h6 hraw
    exact congrArg Host.Outcome.next (State.live_serve_acts_of (disableGate_ignoresLink.beside s) hn hmine rfl hc
      (parseSetGate_inRange (parseYesNo_zero.trans (congrArg some hoff.symm)) hpol hq h1 h2 h3 h4 h5 h6 hraw) rfl)
  · obtain hg | hen' | hout := hout
    · exact parseSetGate_outOfRange (.inl hg)
    · exact parseSetGate_enabled_outOfRange hen'
    · exact parseSetGate_outOfRange (.inr hout)

theorem State.enableGate_disabled {s : State} {a : Gate × GateConfig} {w : Option Instant}
    (hp : (s.gate a.1).phase = .disabled w) : s.enableGate a =
      (s.setGate a.1 { s.gate a.1 with config := a.2, phase := .disabled (some s.instant) }, .ok) := by
  simp [State.enableGate, hp]

/-- An enabled gate answers OK to its own fields and WRONG_STATE to any other, and stays as it is (R19). -/
theorem State.enableGate_enabled {s : State} {a : Gate × GateConfig} (hp : ∀ w, (s.gate a.1).phase ≠ .disabled w) :
    s.enableGate a = (s, if a.2 = (s.gate a.1).config then .ok else .refuse .wrongState) := by
  unfold State.enableGate
  split
  · next w hw => exact absurd hw (hp w)
  all_goals split <;> rfl

theorem State.gateEnableSample_due_sample {s : State} {g : Gate} {t : Instant}
    (hp : (s.gate g).phase = .disabled (some t)) (ht : t < s.instant) (hr : (s.gate g).alarmRaised = false) :
    s.gateEnableSample g = s.setPhase g (if s.sampleActive g then .blocked s.instant else .idle) := by
  unfold State.gateEnableSample
  rw [hp]
  cases s.sampleActive g with
  | true => simp [ht]
  | false => simp [ht, State.enterGateIdle, hr, State.setPhase]

/-- Settles O10: SET_GATE_ENABLE by what the payload parses to and by the gate's state, and the first sample. -/
theorem setGateEnables : Obligations.SetGateEnables := by
  have hmine (tag bg pol q h b raw : Byte) : (codeIs 0x10 ⟨0x10, tag, [bg, 1, pol, q, h, b, raw], .waiting⟩
      && enabledField [bg, 1, pol, q, h, b, raw] == some 1) = true := by
    simp [enabledField]
  refine ⟨?_, fun s tag bg pol q h b raw hc hn hout => ?_, fun s g t hl hp ht hr => ?_⟩
  · rintro s tag bg pol q h b raw g cfg hc hn rfl hon hpol hq h1 h2 h3 h4 h5 h6 hraw
    have hparse := parseSetGate_inRange (g := g) (parseYesNo_one.trans (congrArg some hon.symm)) hpol hq h1 h2 h3 h4 h5 h6
      hraw
    have hexec {t : State} {r : Response} (ha : s.enableGate (g, cfg) = (t, r)) :
        exec .setGateEnable s = .next (t.setLink (s.link.answer r)) := congrArg Host.Outcome.next <|
      State.live_serve_acts_of (enableGate_ignoresLink.beside s) hn (hmine _ _ _ _ _ _ _) rfl hc hparse ha
    refine ⟨?_, fun hp => hexec (State.enableGate_enabled hp)⟩
    rintro ⟨w, hp⟩
    exact hexec (State.enableGate_disabled hp)
  · exact congrArg Host.Outcome.next (State.live_serve_badValue_of (enableGate_ignoresLink.beside s) hn
      (hmine _ _ _ _ _ _ _) rfl hc (parseSetGate_outOfRange hout))
  · exact next_live hl (State.gateEnableSample_due_sample hp ht hr)

end Sys2Proof.Machine
end

section
/-! PROOFS. The rest of the Race Clock and of the Crossing Queue (R8, R10 to R14, R24, R39, R40): what each request's act
does in each clock state, and from it the step that takes the request. -/

namespace Sys2Proof.Machine

/-! ## START CLOCK (R8) -/

theorem parseStartClock_none {p b3 b2 b1 b0 : Byte}
    (h : 1 < p.toNat ∨ (if p = 0 then 0 else word32 b3 b2 b1 b0) = Config.countLimit) :
    parseStartClock [p, b3, b2, b1, b0] = none := by
  unfold parseStartClock
  by_cases hp : 1 < p.toNat
  · simp [parseYesNo_none hp]
  · have hlimit := h.resolve_left hp
    obtain rfl | rfl := byte_zero_or_one hp
    · rw [if_pos rfl] at hlimit
      exact absurd hlimit (by decide)
    · simp only [parseYesNo_one]
      exact if_pos hlimit

theorem parseStartClock_some {p b3 b2 b1 b0 : Byte} (hp : p.toNat ≤ 1)
    (h : (if p = 0 then 0 else word32 b3 b2 b1 b0) ≠ Config.countLimit) :
    parseStartClock [p, b3, b2, b1, b0] = some (if p = 0 then 0 else word32 b3 b2 b1 b0) := by
  unfold parseStartClock
  obtain rfl | rfl := byte_zero_or_one (Nat.not_lt.mpr hp)
  · rfl
  · simp only [parseYesNo_one]
    exact if_neg h

theorem State.startClock_refused {s : State} {preset : Tick} (h : s.clock.state ≠ .idle) :
    s.startClock preset = (s, .refuse .wrongState) := by
  unfold State.startClock
  cases hs : s.clock.state with
  | idle => exact absurd hs h
  | armed _ | running | halting _ | halted => rfl

theorem State.startClock_idle {s : State} {preset : Tick} (h : s.clock.state = .idle) :
    s.startClock preset = ((s.changeClock .running preset .request).clockStartEvent preset, .ok) := by
  simp [State.startClock, h]

/-- Settles O13: the preset by what the payload parses to, and the act by the clock state. -/
theorem startClockStarts : Obligations.StartClockStarts := by
  rintro s tag p b3 b2 b1 b0 preset hc hn rfl
  refine ⟨fun h => congrArg Host.Outcome.next
    (State.live_serve_badValue (startClock_ignoresLink.beside s) hn rfl hc (parseStartClock_none h)), fun hp hlimit => ?_⟩
  have hexec {t : State} {r : Response} (ha : s.startClock (if p = 0 then 0 else word32 b3 b2 b1 b0) = (t, r)) :
      exec .startClock s = .next (t.setLink (s.link.answer r)) := congrArg Host.Outcome.next <|
    State.live_serve_acts (startClock_ignoresLink.beside s) hn rfl hc (parseStartClock_some hp hlimit) ha
  refine ⟨fun u hs hu => ?_, fun hs => hexec (State.startClock_refused hs)⟩
  rw [hu]
  exact hexec (State.startClock_idle hs)

/-! ## HALT CLOCK and RESUME CLOCK (R10, R12) -/

/-- The target is the smallest multiple of 100 above the count, or the limit if that exceeds it (R10). -/
theorem haltTargetFor_eq {count target : Tick}
    (h : count < target ∧ target.toNat % 100 = 0 ∧ target.toNat ≤ count.toNat + 100
      ∨ 4294967200 ≤ count.toNat ∧ target = 0xFFFFFFFF) : haltTargetFor count = target := by
  have hcount := count.isLt
  have htarget := target.isLt
  unfold haltTargetFor
  rw [countLimit_toNat]
  obtain ⟨hlt, hmod, hle⟩ | ⟨hhigh, rfl⟩ := h
  · have hlt' : count.toNat < target.toNat := hlt
    have hnext : 100 * (count.toNat / 100 + 1) = target.toNat := by omega
    rw [hnext, if_neg (by omega)]
    exact BitVec.eq_of_toNat_eq (by simp)
  · exact if_pos (show 4294967295 < 100 * (count.toNat / 100 + 1) by omega)

theorem State.haltClock_running {s : State} (h : s.clock.state = .running) : s.haltClock () =
    (s.changeClock (.halting (haltTargetFor s.clock.count)) s.clock.count .request, .ok) := by
  simp [State.haltClock, h]

theorem State.haltClock_halted {s : State} (h : s.clock.state = .halted ∨ ∃ target, s.clock.state = .halting target) :
    s.haltClock () = (s, .ok) := by
  obtain h | ⟨target, h⟩ := h <;> simp [State.haltClock, h]

theorem State.haltClock_refused {s : State} (h : s.clock.state = .idle ∨ ∃ g, s.clock.state = .armed g) :
    s.haltClock () = (s, .refuse .wrongState) := by
  obtain h | ⟨g, h⟩ := h <;> simp [State.haltClock, h]

theorem exec_haltClock {s t : State} {tag : Byte} {r : Response} (hc : s.session.state ≠ .closed)
    (hn : s.NextIs 0x1B tag []) (ha : s.haltClock () = (t, r)) :
    exec .haltClock s = .next (t.setLink (s.link.answer r)) :=
  congrArg Host.Outcome.next (State.live_serve_acts (haltClock_ignoresLink.beside s) hn rfl hc rfl ha)

theorem State.resumeClock_resumes {s : State}
    (h : s.clock.state = .halted ∧ s.clock.count ≠ 0xFFFFFFFF ∨ ∃ target, s.clock.state = .halting target) :
    s.resumeClock () = (s.changeClock .running s.clock.count .request, .ok) := by
  unfold State.resumeClock
  obtain ⟨h, hcount⟩ | ⟨target, h⟩ := h
  · rw [h]
    exact if_neg hcount
  · rw [h]

theorem State.resumeClock_refused {s : State}
    (h : s.clock.state = .halted ∧ s.clock.count = 0xFFFFFFFF ∨ s.clock.state = .idle ∨ ∃ g, s.clock.state = .armed g) :
    s.resumeClock () = (s, .refuse .wrongState) := by
  unfold State.resumeClock
  obtain ⟨h, hcount⟩ | h | ⟨g, h⟩ := h
  · rw [h]
    exact if_pos hcount
  · rw [h]
  · rw [h]

theorem State.resumeClock_running {s : State} (h : s.clock.state = .running) : s.resumeClock () = (s, .ok) := by
  simp [State.resumeClock, h]

theorem exec_resumeClock {s t : State} {tag : Byte} {r : Response} (hc : s.session.state ≠ .closed)
    (hn : s.NextIs 0x1C tag []) (ha : s.resumeClock () = (t, r)) :
    exec .resumeClock s = .next (t.setLink (s.link.answer r)) :=
  congrArg Host.Outcome.next (State.live_serve_acts (resumeClock_ignoresLink.beside s) hn rfl hc rfl ha)

/-- Settles O14: the acts in each clock state, and the halt target as the one lawful boundary. -/
theorem haltAndResumeClock : Obligations.HaltAndResumeClock := by
  refine ⟨fun s tag hc hn => ⟨fun target hs htarget => ?_, fun hs => exec_haltClock hc hn (State.haltClock_halted hs),
      fun hs => exec_haltClock hc hn (State.haltClock_refused hs)⟩,
    fun s tag hc hn => ⟨fun hs => exec_resumeClock hc hn (State.resumeClock_resumes hs),
      fun hs => exec_resumeClock hc hn (State.resumeClock_refused hs),
      fun hs => exec_resumeClock hc hn (State.resumeClock_running hs)⟩⟩
  rw [exec_haltClock hc hn (State.haltClock_running hs), haltTargetFor_eq htarget]
  rfl

/-! ## CLEAR CLOCK (R14) -/

theorem State.anyRun_iff (s : State) (p : Run → Bool) : s.anyRun p = true ↔ ∃ i r, s.run i = some r ∧ p r = true := by
  simp only [State.anyRun, List.any_eq_true, mem_allSlots, true_and, Option.any_eq_true]

theorem State.anyRun_false {s : State} {p : Run → Bool} (h : ∀ i r, s.run i = some r → ¬ p r = true) :
    s.anyRun p = false := by
  refine Bool.eq_false_iff.mpr fun hany => ?_
  obtain ⟨i, r, hr, hp⟩ := (s.anyRun_iff p).mp hany
  exact h i r hr hp

theorem State.clearClock_refused {s : State} (hidle : s.clock.state ≠ .idle) (hhalted : s.clock.state ≠ .halted) :
    s.clearClock () = (s, .refuse .wrongState) := by
  unfold State.clearClock
  cases hs : s.clock.state with
  | idle => exact absurd hs hidle
  | halted => exact absurd hs hhalted
  | armed _ | running | halting _ => rfl

/-- CLEAR CLOCK in IDLE and HALTED: its checks in their order (R14). -/
theorem State.clearClock_stopped {s : State} (hs : s.clock.state = .idle ∨ s.clock.state = .halted) :
    s.clearClock () =
      if s.anyRun (fun r => r.state == .onCourse) then (s, .refuse .runsActive)
      else if s.crossings.records ≠ [] then (s, .refuse .wrongState)
      else s.clear := by
  obtain hs | hs := hs <;> simp only [State.clearClock, hs]

/-- What a CLEAR CLOCK that passes its checks does (R14, R24). -/
theorem State.clear_eq {s : State} (hs : s.clock.state = .idle ∨ s.clock.state = .halted) {gs : Vector GateUnit 8}
    (hgs : ∀ h : Gate, gs[h] = match s.clock.state, (s.gate h).phase with
      | .halted, .qualifying t e _ => { s.gate h with phase := .qualifying t e true }
      | _, _ => s.gate h) :
    s.clear = ({ s with
      clock := ⟨.idle, 0⟩
      gates := gs
      tracker := { s.tracker with unassigned := [] }
      session := if s.clock.state = .halted then s.session.store 0 (.clockState .idle .request) else s.session },
      .ok [BitVec.ofNat 8 s.tracker.unassigned.length]) := by
  obtain hs | hs := hs
  · have hgates : s.gates = gs := by
      refine Vector.ext fun i hi => ?_
      have hgate := hgs ⟨i, hi⟩
      rw [hs] at hgate
      exact hgate.symm
    simp [State.clear, hs, ← hgates, State.setUnassigned, Response.ok, byteOf]
  · have hgates : s.staleNotice = { s with gates := gs } := by
      refine State.staleNotice_eq fun h => ?_
      rw [hgs h, hs, GateUnit.markStale_eq]
      cases (s.gate h).phase <;> rfl
    have hcleared : (s.setUnassigned []).staleNotice = State.setUnassigned { s with gates := gs } [] := by
      rw [← hgates]
      rfl
    simp only [State.clear, hs, hcleared]
    rfl

/-- Settles O15. -/
theorem clearClockClears : Obligations.ClearClockClears := by
  intro s tag hc hn
  have hexec {t : State} {r : Response} (ha : s.clearClock () = (t, r)) :
      exec .clearClock s = .next (t.setLink (s.link.answer r)) := congrArg Host.Outcome.next <|
    State.live_serve_acts (clearClock_ignoresLink.beside s) hn rfl hc rfl ha
  refine ⟨fun hidle hhalted => hexec (State.clearClock_refused hidle hhalted), fun hs => ⟨?_, fun hruns hwait => ?_,
    fun hruns hempty gs hgs => ?_⟩⟩
  · rintro ⟨i, r, hr, hstate⟩
    exact hexec ((State.clearClock_stopped hs).trans (if_pos ((s.anyRun_iff _).mpr ⟨i, r, hr, by simp [hstate]⟩)))
  · have hnone := State.anyRun_false (p := fun r => r.state == .onCourse) fun i r hr => by simpa using hruns i r hr
    exact hexec ((State.clearClock_stopped hs).trans (by rw [hnone]; exact if_pos hwait))
  · have hnone := State.anyRun_false (p := fun r => r.state == .onCourse) fun i r hr => by simpa using hruns i r hr
    refine hexec (((State.clearClock_stopped hs).trans ?_).trans (State.clear_eq hs hgs))
    rw [hnone]
    exact if_neg (not_not_intro hempty)

/-! ## HALT_END and CLOCK_LIMIT (R11, R13) -/

/-- Settles O17: the two steps in the states in which they arise. -/
theorem haltEndAndLimit : Obligations.HaltEndAndLimit := by
  refine ⟨fun s hl hs hcount => next_live hl ?_, fun s hl hs hcount => next_live hl ?_⟩
  · unfold State.haltEnd
    rw [hs]
    exact if_pos ⟨rfl, hcount⟩
  · unfold State.clockLimit
    refine if_pos ⟨?_, hcount⟩
    obtain hs | ⟨target, hs⟩ := hs <;> rw [hs] <;> rfl

/-! ## MANUAL CROSSING (R39, R40) -/

theorem State.manualCrossing_stopped {s : State} {a : Gate × Tick}
    (h : s.clock.state.mode = .idle ∨ s.clock.state.mode = .armed) :
    s.manualCrossing a = (s, .refuse .wrongState) := by
  unfold State.manualCrossing
  cases hs : s.clock.state with
  | idle | armed _ => rfl
  | running | halting _ | halted => simp [hs, ClockState.mode] at h

/-- MANUAL CROSSING in RUNNING, HALTING and HALTED: its other checks in their order (R39). -/
theorem State.manualCrossing_started {s : State} {a : Gate × Tick} (hidle : s.clock.state.mode ≠ .idle)
    (harmed : s.clock.state.mode ≠ .armed) : s.manualCrossing a =
      if s.clock.count < a.2 then (s, .refuse .badValue)
      else if 32 ≤ s.crossings.records.length then (s, .refuse .queueFull)
      else (s.appendCrossing a.1 a.2 .manual, .ok (bytes32 s.crossings.nextId)) := by
  unfold State.manualCrossing
  cases hs : s.clock.state with
  | idle => simp [hs, ClockState.mode] at hidle
  | armed _ => simp [hs, ClockState.mode] at harmed
  | running | halting _ | halted => rfl

/-- Settles O19. -/
theorem manualCrossingAppends : Obligations.ManualCrossingAppends := by
  rintro s tag b b3 b2 b1 b0 t hc hn rfl
  refine ⟨fun hb => congrArg Host.Outcome.next (State.live_serve_badValue (manualCrossing_ignoresLink.beside s) hn rfl hc
    (by simp [parseManualCrossing, parseGate_none hb])), ?_⟩
  rintro g rfl
  have hexec {t : State} {r : Response} (ha : s.manualCrossing (g, word32 b3 b2 b1 b0) = (t, r)) :
      exec .manualCrossing s = .next (t.setLink (s.link.answer r)) := congrArg Host.Outcome.next <|
    State.live_serve_acts (manualCrossing_ignoresLink.beside s) hn rfl hc
      (by simp [parseManualCrossing, parseGate_ofNat]) ha
  refine ⟨fun h => hexec (State.manualCrossing_stopped h), fun hidle harmed => ?_⟩
  have hchecks := State.manualCrossing_started (a := (g, word32 b3 b2 b1 b0)) hidle harmed
  refine ⟨fun hlate => hexec (hchecks.trans (if_pos hlate)), fun htime hfull => ?_, fun htime hroom => ?_⟩
  · exact hexec (hchecks.trans ((if_neg (BitVec.not_lt.mpr htime)).trans (if_pos hfull)))
  · rw [hexec (hchecks.trans ((if_neg (BitVec.not_lt.mpr htime)).trans (if_neg (Nat.not_le.mpr hroom)))),
      State.appendCrossing_eq]
    rfl

end Sys2Proof.Machine
end

section
/-! PROOFS. The tick instant (R1, R22, R126) and the resets (R169, R170): a step that is not due leaves the part as it is; and
what external reset leaves keeps every law. -/

namespace Sys2Proof.Machine

/-! ## A tick instant with nothing due -/

/-- No step is due at the gate: the clause of `NothingDue` about it. -/
def State.GateNotDue (s : State) (g : Gate) : Prop :=
  match (s.gate g).phase with
  | .disabled none => True
  | .disabled (some t) => s.instant ≤ t
  | .idle => s.sampleActive g = false
  | .qualifying _ e _ => s.sampleActive g = true ∧ s.instant < e + (s.gate g).config.qualifyWidth.toNat
  | .holdoff till mark => s.instant < till ∧ s.edgeSampled g = false
      ∧ ((s.gate g).alarmRaised = true ∨ s.sampleActive g = false
        ∨ s.instant < mark + 10000 * (s.gate g).config.blockAlarmTime.toNat)
  | .blocked mark => s.sampleActive g = true
      ∧ ((s.gate g).alarmRaised = true ∨ s.instant < mark + 10000 * (s.gate g).config.blockAlarmTime.toNat)

namespace State.GateNotDue

variable {s : State} {g : Gate}

theorem gateEnableSample (h : s.GateNotDue g) : s.gateEnableSample g = s := by
  unfold GateNotDue at h
  unfold State.gateEnableSample
  split
  · next t hp =>
    rw [hp] at h
    exact if_neg (Nat.not_lt.mpr h)
  all_goals rfl

theorem blockedInputInactive (h : s.GateNotDue g) : s.blockedInputInactive g = s := by
  unfold GateNotDue at h
  unfold State.blockedInputInactive
  split
  · next hp =>
    rw [hp] at h
    exact if_pos h.1
  all_goals rfl

theorem edgeInHoldoff (h : s.GateNotDue g) : s.edgeInHoldoff g = s := by
  unfold GateNotDue at h
  unfold State.edgeInHoldoff
  split
  · next hp =>
    rw [hp] at h
    exact if_neg (by simp [h.2.1])
  all_goals rfl

theorem holdoffEnd (h : s.GateNotDue g) : s.holdoffEnd g = s := by
  unfold GateNotDue at h
  unfold State.holdoffEnd
  split
  · next hp =>
    rw [hp] at h
    exact if_neg (Nat.not_le.mpr h.1)
  all_goals rfl

theorem shortPulse (h : s.GateNotDue g) : s.shortPulse g = s := by
  unfold GateNotDue at h
  unfold State.shortPulse
  split
  · next hp =>
    rw [hp] at h
    exact if_neg (by simp [h.1])
  all_goals rfl

theorem acceptance (h : s.GateNotDue g) : s.acceptance g = s := by
  unfold GateNotDue at h
  unfold State.acceptance
  split
  · next hp =>
    rw [hp] at h
    exact if_neg fun hdue => absurd hdue.2 (Nat.not_le.mpr h.2)
  all_goals rfl

theorem leadingEdge (h : s.GateNotDue g) : s.leadingEdge g = s := by
  unfold GateNotDue at h
  unfold State.leadingEdge
  split
  · next hp =>
    rw [hp] at h
    exact if_neg (by simp [h])
  all_goals rfl

theorem gateAlarmBlocked (h : s.GateNotDue g) : s.gateAlarmBlocked g = s := by
  unfold GateNotDue at h
  unfold State.gateAlarmBlocked
  split
  · next mark hmark =>
    refine if_neg ?_
    rintro ⟨hactive, -, htime, hraised⟩
    cases hp : (s.gate g).phase with
    | holdoff till mark' =>
      rw [hp] at h hmark
      cases hmark
      obtain ⟨-, -, halarm | hinactive | hearly⟩ := h
      · exact absurd (halarm.symm.trans hraised) nofun
      · exact absurd (hactive.symm.trans hinactive) nofun
      · exact absurd htime (Nat.not_le.mpr hearly)
    | blocked mark' =>
      rw [hp] at h hmark
      cases hmark
      obtain ⟨-, halarm | hearly⟩ := h
      · exact absurd (halarm.symm.trans hraised) nofun
      · exact absurd htime (Nat.not_le.mpr hearly)
    | disabled | idle | qualifying =>
      rw [hp] at hmark
      cases hmark
  · rfl

theorem settleGate (h : s.GateNotDue g) : s.settleGate g = s := by
  rw [State.settleGate, h.gateEnableSample, h.blockedInputInactive, h.edgeInHoldoff, h.holdoffEnd, h.shortPulse,
    h.acceptance, h.leadingEdge, h.gateAlarmBlocked]

end State.GateNotDue

theorem foldl_eq_self {α β : Type} {f : α → β → α} {a : α} (h : ∀ b, f a b = a) (bs : List β) : bs.foldl f a = a := by
  induction bs with
  | nil => rfl
  | cons b bs ih => rw [List.foldl_cons, h b, ih]

theorem expiredBy_false {now : Instant} {timer : Option Instant} (h : ∀ e, timer = some e → now < e) :
    expiredBy now timer = false := by
  cases timer with
  | none => rfl
  | some e => simpa [expiredBy] using h e rfl

namespace State.NothingDue

variable {s : State}

theorem clockLimit (h : s.NothingDue) : s.clockLimit = s := if_neg fun hdue => h.1 hdue.1 hdue.2

theorem haltEnd (h : s.NothingDue) : s.haltEnd = s := by
  unfold State.haltEnd
  split
  · next target hs => exact if_neg fun hdue => h.2.1 target hs hdue.1
  all_goals rfl

theorem examineDeadlines (h : s.NothingDue) : s.examineDeadlines = s := by
  have hnone : s.tracker.queues.flatten.filter s.expires = [] :=
    List.filter_eq_nil_iff.mpr fun i _ => by simp [h.2.2.2.1 i]
  rw [State.examineDeadlines, hnone]
  rfl

theorem retryTimerExpiry (h : s.NothingDue) : s.retryTimerExpiry = s :=
  if_neg fun hdue => Bool.false_ne_true ((expiredBy_false h.2.2.2.2.1).symm.trans hdue.2)

theorem keepaliveExpiry (h : s.NothingDue) : s.keepaliveExpiry = s :=
  if_neg fun hdue => Bool.false_ne_true ((expiredBy_false h.2.2.2.2.2.1).symm.trans hdue.2)

theorem settleGap (h : s.NothingDue) : s.settleGap = s := by
  have hgap := h.2.2.2.2.2.2
  unfold State.settleGap
  split
  · rfl
  case h_2 hr | h_3 hr =>
    rw [hr] at hgap
    exact if_neg (Nat.not_lt.mpr hgap)
  · next hr =>
    rw [hr] at hgap
    exact if_neg (Nat.not_le.mpr hgap)

theorem settle (h : s.NothingDue) : s.settle = s := by
  have hgates : Config.allGates.foldl State.settleGate s = s := foldl_eq_self (fun g => GateNotDue.settleGate (h.2.2.1 g)) _
  rw [State.settle, h.clockLimit, h.haltEnd, hgates, h.examineDeadlines, h.retryTimerExpiry, h.keepaliveExpiry,
    h.settleGap]

end State.NothingDue

/-! ## The tick -/

theorem RaceClock.ticked_eq (c : RaceClock) : c.ticked = match c.state with
    | .running | .halting _ => ⟨c.state, c.count + 1⟩
    | .idle | .armed _ | .halted => c := by
  unfold RaceClock.ticked
  cases c.state <;> rfl

/-- The tick of the divider, with the free transmitter's choice as the statements read it (R1, R22, R139). -/
theorem State.tick_eq (s : State) (levels : Byte) : s.tick levels = { s with
    clock := s.clock.ticked
    pins := ⟨s.pins.resetLow, levels, s.pins.levels⟩
    instant := s.instant + 1
    link := { s.link with
      openChoice := decide (s.link.transmitter = .free ∧ s.link.shortReply = none
        ∧ ∀ e ∈ s.link.buffer, e.readyReply = none) } } := by
  have hchoice : (s.link.transmitter == .free && !s.link.replyPresent) = decide (s.link.transmitter = .free
      ∧ s.link.shortReply = none ∧ ∀ e ∈ s.link.buffer, e.readyReply = none) := by
    simp only [LinkController.not_replyPresent, Bool.decide_and, beq_eq_decide]
  rw [State.tick, hchoice]
  rfl

/-- Settles O18: with nothing due the tick follows at once; in every state it follows the steps due and the gap. -/
theorem tickCountsAndSamples : Obligations.TickCountsAndSamples := by
  refine ⟨fun s levels hl hnone => next_live hl ?_, fun s levels hl => ?_⟩
  · rw [hnone.settle, State.tick_eq, RaceClock.ticked_eq, hl] <;> rfl
  · obtain ⟨u, hrun, hdue, hsettle⟩ := runAll_dueSteps s hl
    obtain ⟨r, dropped, hjudged, hgap⟩ := u.settleGap_eq
    refine ⟨u, r, dropped, hrun, hdue.instant ▸ hjudged, next_live hl ?_⟩
    rw [hsettle, hgap, State.tick_eq, RaceClock.ticked_eq, ← hl, ← hdue.pins, ← hdue.instant] <;> rfl

/-! ## Resets -/

/-- Settles O1: by the equation of `step`. -/
theorem stepRunsFrontCommand : Obligations.StepRunsFrontCommand := fun _ _ => rfl

theorem State.gate_of_reset {s : State} (h : s.gates = Vector.replicate 8 GateUnit.reset) (g : Gate) :
    s.gate g = GateUnit.reset := by simp [State.gate, h]

theorem State.run_of_reset {s : State} (h : s.tracker.runs = Vector.replicate 24 none) (i : Slot) : s.run i = none := by
  simp [State.run, h]

theorem rateOf_eq (b1 b0 : Bool) : rateOf b1 b0 =
    if b1 then if b0 then .bps921600 else .bps460800 else if b0 then .bps230400 else .bps115200 := by
  cases b1 <;> cases b0 <;> rfl

/-- Every command but a reset is taken only while RSTn is high. -/
theorem exec_live (c : Instr) (hlow : c ≠ .rstnLow) (hreset : ∀ b1 b0, c ≠ .externalReset b1 b0) :
    ∃ f, ∀ s, exec c s = .next (s.live f) := by
  cases c with
  | rstnLow => exact absurd rfl hlow
  | externalReset b1 b0 => exact absurd rfl (hreset b1 b0)
  | _ => exact ⟨_, fun _ => rfl⟩

/-- Settles O3: what the two resets leave, read off field by field, and `live` for every other command. -/
theorem resetStartsThePart : Obligations.ResetStartsThePart := by
  refine ⟨fun s b1 b0 => ⟨_, rfl, rfl, State.gate_of_reset rfl, rfl, rfl, rfl, State.run_of_reset rfl, rfl, rfl,
      rateOf_eq b1 b0, rfl, rfl, rfl, rfl, rfl, rfl, rfl, rfl, rfl, rfl, rfl, rfl, rfl, rfl⟩,
    fun s => ⟨_, rfl, rfl, rfl, rfl, rfl, fun g => ?_, rfl, rfl, State.run_of_reset rfl, rfl, rfl, rfl, rfl, rfl, rfl, rfl,
      rfl, rfl⟩,
    fun c s hl hlow hreset => ?_⟩
  · exact congrArg GateUnit.phase (State.gate_of_reset (s := s.inert) rfl g)
  · obtain ⟨f, hf⟩ := exec_live c hlow hreset
    rw [hf s, State.live_low hl]

/-- Settles O4: the laws of each block after reset. -/
theorem resetKeepsEveryLaw : Obligations.ResetKeepsEveryLaw :=
  ⟨⟨Nat.zero_le _, Nat.zero_le _, by decide, Nat.zero_le _⟩, (State.timeLaw_of_reset rfl rfl rfl).1, nofun,
    State.gatesLawful_of_reset rfl, State.trackerLaw_of_reset rfl, Session.reset_lawful .external, nofun,
    (linkKept_lawful.reset .bps115200 false).1, trivial⟩

end Sys2Proof.Machine
end

section
/-! PROOFS. Ends over time (R72, R91, R92, R100): what ending a list of runs leaves, said once; the examination of the
deadlines and the overdue heads of a take are uses of it. -/

namespace Sys2Proof.Machine

/-! ## Ending a list of runs -/

/-- The record of a run that has ended over time (R72). -/
def Run.endedOverTime (r : Run) : Run := { r with state := .notFinished, endReason := some .overTime }

theorem State.endOverTime_some {s : State} {i : Slot} {r : Run} (h : s.run i = some r) : s.endOverTime i =
    ((s.dequeue i).setRun i (some r.endedOverTime)).report (.runEnded r.number .overTime none) := by
  simp only [State.endOverTime, h, Run.endedOverTime]

/-- What is left when the runs in the slots `es` have ended over time is one state. -/
theorem State.EndedOverTime.unique {s u v : State} {es : List Slot} (hu : s.EndedOverTime u es)
    (hv : s.EndedOverTime v es) : u = v := by
  obtain ⟨hu, hru⟩ := hu
  obtain ⟨hv, hrv⟩ := hv
  have hruns : u.tracker.runs = v.tracker.runs :=
    Vector.ext fun i hi => (hru ⟨i, hi⟩).trans (hrv ⟨i, hi⟩).symm
  rw [hu, hv, hruns]

theorem State.EndedOverTime.nil (s : State) : s.EndedOverTime s [] := by
  refine ⟨?_, fun i => by simp⟩
  simp

/-- One more run ends. -/
theorem State.EndedOverTime.snoc {s u : State} {es : List Slot} (h : s.EndedOverTime u es) {i : Slot}
    (hi : (s.run i).isSome = true) : s.EndedOverTime (u.endOverTime i) (es ++ [i]) := by
  obtain ⟨hu, hrun⟩ := h
  obtain ⟨r, hr⟩ := Option.isSome_iff_exists.mp hi
  obtain ⟨r', hr', hnumber, hended⟩ : ∃ r', u.run i = some r' ∧ r'.number = r.number
      ∧ r'.endedOverTime = r.endedOverTime := by
    rw [hrun i, hr]
    split
    · exact ⟨_, rfl, rfl, rfl⟩
    · exact ⟨r, rfl, rfl, rfl⟩
  have hqueues (q : List Slot) : (q.filter fun j => !es.contains j).filter (· ≠ i) =
      q.filter fun j => !(es ++ [i]).contains j := by
    rw [List.filter_filter]
    refine List.filter_congr fun j _ => ?_
    simp [Bool.and_comm]
  rw [State.endOverTime_some hr', hnumber, hended]
  refine ⟨?_, fun j => ?_⟩
  · generalize hruns : (((u.dequeue i).setRun i (some r.endedOverTime)).report
      (.runEnded r.number .overTime none)).tracker.runs = runs
    rw [show ((u.dequeue i).setRun i (some r.endedOverTime)).report (.runEnded r.number .overTime none) = { u with
      tracker := { u.tracker with queues := u.tracker.queues.map fun q => q.filter (· ≠ i), runs := runs }
      session := u.session.store u.clock.count (.runEnded r.number .overTime none) } by rw [← hruns]; rfl]
    rw [hu]
    simp only [List.foldl_append, List.foldl_cons, List.foldl_nil, hr, ← hqueues, List.map_map]
    rfl
  · rw [State.run_report, State.run_setRun]
    show (if i = j then some r.endedOverTime else u.run j) = _
    by_cases hij : i = j
    · subst hij
      simp [hr, Run.endedOverTime]
    · have hji : j ≠ i := fun e => hij e.symm
      simp [hij, hji, hrun j]

/-- What ending a list of runs one after another leaves (R72). -/
theorem State.foldl_endOverTime (s : State) {es : List Slot} (h : ∀ i ∈ es, (s.run i).isSome = true) :
    s.EndedOverTime (es.foldl State.endOverTime s) es := by
  induction es using List.reverseRecOn with
  | nil => exact .nil s
  | append_singleton es i ih =>
    rw [List.foldl_append]
    exact (ih fun j hj => h j (List.mem_append_left _ hj)).snoc (h i (by simp))

/-- The state that `EndedOverTime` describes is that left by ending the runs one after another. -/
theorem State.EndedOverTime.eq_foldl {s u : State} {es : List Slot} (h : s.EndedOverTime u es)
    (hes : ∀ i ∈ es, (s.run i).isSome = true) : es.foldl State.endOverTime s = u :=
  (s.foldl_endOverTime hes).unique h

/-! ## The examination of the deadlines -/

theorem CrossingQueue.holdsUpTo_false {q : CrossingQueue} {t : Tick} :
    q.holdsUpTo t = false ↔ ∀ c ∈ q.records, t < c.time := by
  simp [CrossingQueue.holdsUpTo]

/-- The runs that an examination ends, as the statements read them (R100). -/
theorem State.expires_iff (s : State) (i : Slot) : s.expires i = true ↔ ∃ r d, s.run i = some r ∧ r.state = .onCourse
    ∧ r.deadline = some d ∧ d ≤ s.clock.count ∧ ∀ c ∈ s.crossings.records, d < c.time := by
  simp only [State.expires, Option.any_eq_true, Bool.and_eq_true, beq_iff_eq, decide_eq_true_eq, Bool.not_eq_true',
    CrossingQueue.holdsUpTo_false]
  constructor
  · rintro ⟨r, hr, hstate, d, hd, hle, hwait⟩
    exact ⟨r, d, hr, hstate, hd, hle, hwait⟩
  · rintro ⟨r, d, hr, hstate, hd, hle, hwait⟩
    exact ⟨r, hr, hstate, d, hd, hle, hwait⟩

/-- Settles O24: the runs that expire are those that are due, and the fold leaves what `EndedOverTime` describes. -/
theorem deadlinesExpire : Obligations.DeadlinesExpire := by
  intro s u due hl hdue hu
  have hexpires (i : Slot) : s.expires i = due i := Bool.eq_iff_iff.mpr ((s.expires_iff i).trans (hdue i).symm)
  have hes : ∀ i ∈ s.tracker.queues.flatten.filter due, (s.run i).isSome = true := by
    intro i hi
    obtain ⟨r, _, hr, -⟩ := (hdue i).mp (List.mem_filter.mp hi).2
    rw [hr]
    rfl
  have hexamine : s.examineDeadlines = u := by
    rw [State.examineDeadlines, funext hexpires]
    exact hu.eq_foldl hes
  exact ⟨next_live hl hexamine, hexamine⟩

end Sys2Proof.Machine
end

section
/-! PROOFS. The take of a crossing (R91 to R96, R103): the heads that a candidate step ends over time, the heads that remain
and the choice among them, and what becomes of the crossing. -/

namespace Sys2Proof.Machine

/-! ## The steps at a gate -/

/-- The steps of a course at gate `g`, ascending. -/
def Course.stepsAt (course : Course) (g : Gate) : List Nat :=
  (List.range course.steps.length).filter fun k => course.gateOf k == some g

theorem Course.gateOf_lt {course : Course} {k : Nat} {g : Gate} (h : course.gateOf k = some g) :
    k < course.steps.length := by
  obtain ⟨st, hst, -⟩ := Option.bind_eq_some_iff.mp h
  exact (List.getElem?_eq_some_iff.mp hst).1

theorem Course.mem_stepsAt {course : Course} {g : Gate} {k : Nat} :
    k ∈ course.stepsAt g ↔ course.gateOf k = some g := by
  simp only [Course.stepsAt, List.mem_filter, List.mem_range, beq_iff_eq]
  exact ⟨fun h => h.2, fun h => ⟨Course.gateOf_lt h, h⟩⟩

theorem Course.stepsAt_sorted (course : Course) (g : Gate) : (course.stepsAt g).Pairwise (· < ·) :=
  List.pairwise_lt_range.filter _

theorem Course.usesGate_iff {course : Course} {g : Gate} :
    course.usesGate g = true ↔ ∃ k, course.gateOf k = some g := by
  simp only [Course.usesGate, List.any_eq_true, beq_iff_eq, Course.gateOf, Option.bind_eq_some_iff]
  constructor
  · rintro ⟨st, hmem, hgate⟩
    obtain ⟨k, hk⟩ := List.mem_iff_getElem?.mp hmem
    exact ⟨k, st, hk, hgate⟩
  · rintro ⟨k, st, hk, hgate⟩
    exact ⟨st, List.mem_of_getElem? hk, hgate⟩

theorem State.candidates_eq (s : State) (course : Course) (g : Gate) :
    s.candidates course g = (course.stepsAt g).filter fun k => !(s.queue k).isEmpty := by
  rw [State.candidates, Course.stepsAt, List.filter_filter]
  refine List.filter_congr fun k _ => Bool.and_comm _ _

theorem State.mem_candidates {s : State} {course : Course} {g : Gate} {k : Nat} :
    k ∈ s.candidates course g ↔ course.gateOf k = some g ∧ s.queue k ≠ [] := by
  simp [State.candidates_eq, Course.mem_stepsAt]

theorem State.candidates_sorted (s : State) (course : Course) (g : Gate) :
    (s.candidates course g).Pairwise (· < ·) := by
  rw [State.candidates_eq]
  exact (course.stepsAt_sorted g).filter _

/-! ## Overdue heads -/

/-- No head that is in time ends over time (R92). -/
theorem State.endOverdueHeads_eq_self {s : State} {t : Tick} {k : Nat}
    (h : ∀ i, (s.queue k).head? = some i → s.overdue t i = false) : State.endOverdueHeads t s k = s := by
  have hnone : (s.queue k).takeWhile (s.overdue t) = [] := by
    cases hq : s.queue k with
    | nil => rfl
    | cons i q => exact List.takeWhile_cons_of_neg (by simp [h i (by rw [hq]; rfl)])
  rw [State.endOverdueHeads, hnone]
  rfl

theorem foldl_eq_self_of_mem {α β : Type} {f : α → β → α} {a : α} {bs : List β} (h : ∀ b ∈ bs, f a b = a) :
    bs.foldl f a = a := by
  induction bs with
  | nil => rfl
  | cons b bs ih =>
    rw [List.foldl_cons, h b List.mem_cons_self]
    exact ih fun b hb => h b (List.mem_cons_of_mem _ hb)

theorem State.overdue_iff (s : State) (t : Tick) (i : Slot) : s.overdue t i = true ↔
    ∃ r d, s.run i = some r ∧ r.state = .onCourse ∧ r.deadline = some d ∧ d < t := by
  simp only [State.overdue, Run.overdueAt, Option.any_eq_true, Bool.and_eq_true, beq_iff_eq, decide_eq_true_eq]
  constructor
  · rintro ⟨r, hr, hstate, d, hd, hlt⟩
    exact ⟨r, d, hr, hstate, hd, hlt⟩
  · rintro ⟨r, d, hr, hstate, hd, hlt⟩
    exact ⟨r, hr, hstate, d, hd, hlt⟩

theorem State.HeadsInTime.not_overdue {s : State} {c : Crossing} (h : s.HeadsInTime c) {course : Course}
    (hcourse : s.tracker.course = some course) {k : Nat} (hk : course.gateOf k = some c.gate) {i : Slot}
    (hi : (s.queue k).head? = some i) : s.overdue c.time i = false := by
  refine Bool.eq_false_iff.mpr fun hlate => ?_
  obtain ⟨r, d, hr, hstate, hd, hlt⟩ := (s.overdue_iff c.time i).mp hlate
  exact BitVec.not_lt.mpr (h course k i r d hcourse hk hi hr hstate hd) hlt

/-! ## What becomes of the crossing -/

theorem State.place_noStep {s : State} {c : Crossing}
    (h : ∀ course, s.tracker.course = some course → ∀ k, course.gateOf k ≠ some c.gate) :
    s.place c = s.fileCrossing c .noStep := by
  unfold State.place
  split
  · rfl
  · next course hcourse =>
    exact if_neg fun huse => (Course.usesGate_iff.mp huse).elim fun k hk => h course hcourse k hk

/-- The crossing is given to the winner, or filed, among heads that are all in time (R93 to R96). -/
def State.placeAmong (s : State) (course : Course) (c : Crossing) : State :=
  match chooseHead ((s.heads (s.candidates course c.gate)).filter (Head.eligible course c.time)) with
  | some h => s.advance h.slot c false
  | none => s.fileCrossing c (if s.heads (s.candidates course c.gate) = [] then .noRun else .tooSoon)

theorem State.place_inTime {s : State} {c : Crossing} {course : Course} (hcourse : s.tracker.course = some course)
    (hgate : ∃ k, course.gateOf k = some c.gate)
    (hheads : ∀ k, course.gateOf k = some c.gate → ∀ i, (s.queue k).head? = some i → s.overdue c.time i = false) :
    s.place c = s.placeAmong course c := by
  have hfold : (s.candidates course c.gate).foldl (State.endOverdueHeads c.time) s = s :=
    foldl_eq_self_of_mem fun k hk => State.endOverdueHeads_eq_self (hheads k (State.mem_candidates.mp hk).1)
  simp only [State.place, hcourse, Course.usesGate_iff.mpr hgate, if_true, hfold]
  rfl

/-- A head that remains at a candidate step is the head of its queue, with its last split time (R93). -/
theorem State.mem_heads {s : State} {ks : List Nat} {h : Head} : h ∈ s.heads ks ↔ h.step ∈ ks
    ∧ (s.queue h.step).head? = some h.slot ∧ h.last = ((s.run h.slot).bind (·.lastTime)).getD 0 := by
  simp only [State.heads, List.mem_filterMap, Option.map_eq_some_iff]
  constructor
  · rintro ⟨k, hk, i, hi, rfl⟩
    exact ⟨hk, hi, rfl⟩
  · rintro ⟨hk, hi, hlast⟩
    exact ⟨h.step, hk, h.slot, hi, by rw [← hlast]⟩

theorem State.heads_sorted {s : State} {ks : List Nat} (h : ks.Pairwise (· < ·)) :
    (s.heads ks).Pairwise fun a b => a.step < b.step := by
  unfold State.heads
  refine h.filterMap _ fun k k' hlt a ha b hb => ?_
  simp only [Option.map_eq_some_iff] at ha hb
  obtain ⟨i, -, rfl⟩ := ha
  obtain ⟨j, -, rfl⟩ := hb
  exact hlt

theorem State.heads_eq_nil {s : State} {ks : List Nat} (h : ∀ k ∈ ks, s.queue k = []) : s.heads ks = [] := by
  refine List.filterMap_eq_nil_iff.mpr fun k hk => ?_
  rw [h k hk]
  rfl

/-- A head that is too soon is not eligible (R93). -/
theorem State.TooSoonAt.not_eligible {s : State} {course : Course} {t : Tick} {ks : List Nat} {h : Head}
    (hmem : h ∈ s.heads ks) (hsoon : s.TooSoonAt course t h.step h.slot) : h.eligible course t = false := by
  obtain ⟨hpos, r, last, hr, hlast, hlt⟩ := hsoon
  have heq : h.last = last := by
    rw [(State.mem_heads.mp hmem).2.2, hr]
    simp [hlast]
  have hne : h.step ≠ 0 := Nat.ne_of_gt hpos
  simp [Head.eligible, hne, heq, hlt]

/-! ## Filing (R103) -/

theorem State.fileCrossing_room {s : State} (c : Crossing) (why : FilingReason)
    (h : s.tracker.unassigned.length < 16) : s.fileCrossing c why = { s with
      tracker := { s.tracker with unassigned := s.tracker.unassigned ++ [⟨c, why⟩] }
      session := s.session.store s.clock.count (.unassigned c.id c.gate c.time why) } := by
  unfold State.fileCrossing
  cases hes : s.tracker.unassigned with
  | nil =>
    simp only [hes]
    rfl
  | cons oldest rest =>
    rw [hes, List.length_cons] at h
    simp only [show rest.length + 1 < Config.unassignedCapacity from h, if_true, hes]
    rfl

theorem State.fileCrossing_full {s : State} (c : Crossing) (why : FilingReason) {oldest : UnassignedEntry}
    {kept : List UnassignedEntry} (hes : s.tracker.unassigned = oldest :: kept)
    (h : 16 ≤ s.tracker.unassigned.length) : s.fileCrossing c why = { s with
      tracker := { s.tracker with unassigned := kept ++ [⟨c, why⟩] }
      session := (s.session.store s.clock.count (.unassignedDropped oldest.crossing.id oldest.crossing.gate)).store
        s.clock.count (.unassigned c.id c.gate c.time why) } := by
  rw [hes, List.length_cons] at h
  unfold State.fileCrossing
  simp only [hes, Nat.not_lt.mpr h, if_false]
  rfl

theorem State.take_taking {s : State} {c : Crossing} {rest : List Crossing} (ha : s.tracker.assignment = .taking)
    (hc : s.crossings.records = c :: rest) :
    s.take = (State.place { s with crossings := ⟨rest, s.crossings.nextId⟩ } c).examineDeadlines := by
  simp only [State.take, ha, hc]

/-- Why a crossing goes to no run, as the statement has it (R91, R93, R94). -/
def State.GoesToNoRun (s : State) (c : Crossing) (why : FilingReason) : Prop :=
  why = .noStep ∧ (∀ course, s.tracker.course = some course → ∀ k, course.gateOf k ≠ some c.gate)
  ∨ why = .noRun ∧ (∃ course, s.tracker.course = some course ∧ (∃ k, course.gateOf k = some c.gate)
      ∧ ∀ k, course.gateOf k = some c.gate → s.queue k = [])
  ∨ why = .tooSoon ∧ ∃ course, s.tracker.course = some course
      ∧ (∃ k, course.gateOf k = some c.gate ∧ s.queue k ≠ [])
      ∧ ∀ k i, course.gateOf k = some c.gate → (s.queue k).head? = some i → s.TooSoonAt course c.time k i

theorem State.place_files {s : State} {c : Crossing} {why : FilingReason} (hin : s.HeadsInTime c)
    (hwhy : s.GoesToNoRun c why) : s.place c = s.fileCrossing c why := by
  obtain ⟨rfl, hnone⟩ | ⟨rfl, course, hcourse, hgate, hempty⟩ | ⟨rfl, course, hcourse, hsome, hsoon⟩ := hwhy
  · exact State.place_noStep hnone
  · have hheads : s.heads (s.candidates course c.gate) = [] :=
      State.heads_eq_nil fun k hk => hempty k (State.mem_candidates.mp hk).1
    rw [State.place_inTime hcourse hgate fun k hk i hi => hin.not_overdue hcourse hk hi, State.placeAmong, hheads]
    rfl
  · obtain ⟨k, hk, hq⟩ := hsome
    have hnone : (s.heads (s.candidates course c.gate)).filter (Head.eligible course c.time) = [] := by
      refine List.filter_eq_nil_iff.mpr fun h hh => ?_
      obtain ⟨hstep, hslot, -⟩ := State.mem_heads.mp hh
      simp [State.TooSoonAt.not_eligible hh (hsoon _ _ (State.mem_candidates.mp hstep).1 hslot)]
    have hheads : s.heads (s.candidates course c.gate) ≠ [] := by
      obtain ⟨i, hi⟩ := Option.isSome_iff_exists.mp (List.isSome_head?.mpr hq)
      exact List.ne_nil_of_mem (a := ⟨k, i, ((s.run i).bind (·.lastTime)).getD 0⟩)
        (State.mem_heads.mpr ⟨State.mem_candidates.mpr ⟨hk, hq⟩, hi, rfl⟩)
    rw [State.place_inTime hcourse ⟨k, hk⟩ fun k hk i hi => hin.not_overdue hcourse hk hi, State.placeAmong, hnone]
    simp [chooseHead, hheads]

/-- The take of the head crossing, by what becomes of it (R42, R96). -/
theorem exec_take {s t : State} {c : Crossing} {rest : List Crossing} (hl : s.pins.resetLow = false)
    (ha : s.tracker.assignment = .taking) (hc : s.crossings.records = c :: rest)
    (ht : State.place { s with crossings := ⟨rest, s.crossings.nextId⟩ } c = t) :
    exec .take s = .next t.examineDeadlines :=
  next_live hl ((State.take_taking ha hc).trans (congrArg State.examineDeadlines ht))

/-- Settles O20: the crossing is filed when no step, no head or no eligible head is there. -/
theorem takeFilesCrossing : Obligations.TakeFilesCrossing := by
  rintro s u c rest why hl ha hc hin hwhy
  have hplace := State.place_files (s := { s with crossings := ⟨rest, s.crossings.nextId⟩ }) hin hwhy
  refine ⟨fun hroom hu => ?_, fun oldest kept hes hfull hu => ?_⟩
  · exact hu ▸ exec_take hl ha hc (hplace.trans (State.fileCrossing_room c why hroom))
  · exact hu ▸ exec_take hl ha hc (hplace.trans (State.fileCrossing_full c why hes hfull))

/-! ## The choice among the heads (R95) -/

/-- `a` is given the crossing before `b`: its last split is earlier, or as early at a higher step (R95). -/
def Head.Beats (a b : Head) : Prop := a.last < b.last ∨ a.last = b.last ∧ b.step < a.step

/-- The head that beats every other of a list in ascending order of step is the one that the fold leaves. -/
theorem foldl_better {w a : Head} {hs : List Head} (hsorted : (a :: hs).Pairwise fun a b => a.step < b.step)
    (hw : w ∈ a :: hs) (hbeats : ∀ h ∈ a :: hs, h ≠ w → w.Beats h) : hs.foldl Head.better a = w := by
  induction hs generalizing a with
  | nil => exact (List.mem_singleton.mp hw).symm
  | cons b hs ih =>
    have hab : a.step < b.step := (List.pairwise_cons.mp hsorted).1 b List.mem_cons_self
    have hdrop_a : (b :: hs).Pairwise fun a b => a.step < b.step := (List.pairwise_cons.mp hsorted).2
    have hdropped : (a :: hs).Sublist (a :: b :: hs) := List.Sublist.cons_cons a (List.sublist_cons_self b hs)
    have hdrop_b : (a :: hs).Pairwise fun a b => a.step < b.step := hsorted.sublist hdropped
    rw [List.foldl_cons]
    obtain rfl | hw := List.mem_cons.mp hw
    · have hbetter : w.better b = w := by
        have hne : b ≠ w := fun heq => absurd hab (heq ▸ Nat.lt_irrefl _)
        obtain hlt | ⟨-, hstep⟩ := hbeats b (by simp) hne
        · exact if_neg (BitVec.not_le.mpr hlt)
        · exact absurd hab (Nat.lt_asymm hstep)
      rw [hbetter]
      exact ih hdrop_b List.mem_cons_self fun h hh => hbeats h (hdropped.subset hh)
    · obtain rfl | hw := List.mem_cons.mp hw
      · have hbetter : a.better w = w := by
          have hne : a ≠ w := fun heq => absurd hab (heq ▸ Nat.lt_irrefl _)
          obtain hlt | ⟨heq, -⟩ := hbeats a (by simp) hne
          · exact if_pos (BitVec.le_of_lt hlt)
          · exact if_pos (heq ▸ BitVec.le_refl _)
        rw [hbetter]
        exact ih hdrop_a List.mem_cons_self fun h hh => hbeats h (List.mem_cons_of_mem _ hh)
      · have hbetter : a.better b = a ∨ a.better b = b := by
          unfold Head.better
          split <;> simp
        obtain hbetter | hbetter := hbetter
        · rw [hbetter]
          exact ih hdrop_b (List.mem_cons_of_mem _ hw) fun h hh => hbeats h (hdropped.subset hh)
        · rw [hbetter]
          exact ih hdrop_a (List.mem_cons_of_mem _ hw) fun h hh => hbeats h (List.mem_cons_of_mem _ hh)

/-- The choice falls on the eligible ON_COURSE head that beats every other (R95). -/
theorem chooseHead_onCourse {hs : List Head} {w : Head} (hsorted : hs.Pairwise fun a b => a.step < b.step)
    (hw : w ∈ hs) (hpos : w.step ≠ 0) (hbeats : ∀ h ∈ hs, h.step ≠ 0 → h ≠ w → w.Beats h) : chooseHead hs = some w := by
  have hmem : w ∈ hs.filter fun h => h.step != 0 := List.mem_filter.mpr ⟨hw, by simpa using hpos⟩
  unfold chooseHead
  split
  · next h rest heq =>
    have hsorted' := heq ▸ hsorted.filter fun h : Head => h.step != 0
    refine congrArg some (foldl_better hsorted' (heq ▸ hmem) fun h' hh' hne => ?_)
    rw [← heq] at hh'
    obtain ⟨hh', hstep⟩ := List.mem_filter.mp hh'
    exact hbeats h' hh' (by simpa using hstep) hne
  · next heq =>
    rw [heq] at hmem
    cases hmem

/-- The choice falls on the start head when it is the only eligible one (R95). -/
theorem chooseHead_start {w : Head} {hs : List Head} (hsorted : hs.Pairwise fun a b => a.step < b.step) (hw : w ∈ hs)
    (hstart : w.step = 0) (honly : ∀ h ∈ hs, h.step = 0) : chooseHead hs = some w := by
  have hnone : hs.filter (fun h => h.step != 0) = [] :=
    List.filter_eq_nil_iff.mpr fun h hh => by simp [honly h hh]
  rw [chooseHead, hnone]
  cases hs with
  | nil => cases hw
  | cons a hs =>
    obtain rfl | hw := List.mem_cons.mp hw
    · rfl
    · have hlt := (List.pairwise_cons.mp hsorted).1 w hw
      omega

end Sys2Proof.Machine
end

section
/-! PROOFS. The take that starts a run, adds a split, or first ends overdue heads (R69 to R73, R80, R91 to R96). -/

namespace Sys2Proof.Machine

/-! ## Starting a run and adding a split -/

theorem State.startRun_some {s : State} {i : Slot} {r : Run} (h : s.run i = some r) (o : SplitOrigin) (t : Tick)
    (host : Bool) : s.startRun i o t host = { s with
      tracker := { s.tracker with
        runs := s.tracker.runs.set i (some { r with
          state := .onCourse, splits := [⟨0, o, t, host⟩], deadline := s.tracker.course.bind (·.deadlineFrom t) })
        queues := (s.tracker.queues.map fun q => q.filter (· ≠ i)).modify 1 (· ++ [i]) }
      session := s.session.store s.clock.count (.runStarted r.number i t o.source) } := by
  simp only [State.startRun, h]
  rfl

theorem filter_ne_self {i : Slot} {q : List Slot} (h : i ∉ q) : q.filter (· ≠ i) = q :=
  List.filter_eq_self.mpr fun j hj => by
    have hne : j ≠ i := fun heq => h (heq ▸ hj)
    simpa using hne

/-- The deadline that a start gives (R73). -/
theorem Course.deadlineFrom_eq {course : Course} {t : Tick} {d : Option Tick}
    (h : course.maxCourseTime = 0 ∧ d = none ∨ course.maxCourseTime ≠ 0 ∧ ∃ e : Tick, d = some e
      ∧ e.toNat = min (t.toNat + 10000 * course.maxCourseTime.toNat) 4294967295) : course.deadlineFrom t = d := by
  unfold Course.deadlineFrom
  obtain ⟨h0, rfl⟩ | ⟨hne, e, rfl, he⟩ := h
  · exact if_pos h0
  · rw [if_neg hne, countLimit_toNat, ← he]
    simp

theorem State.eligible_sorted (s : State) (course : Course) (c : Crossing) :
    ((s.heads (s.candidates course c.gate)).filter (Head.eligible course c.time)).Pairwise
      fun a b => a.step < b.step :=
  (State.heads_sorted (s.candidates_sorted course c.gate)).filter _

/-- The head of the queue of a step at the gate is among the heads that remain. -/
theorem State.head_mem {s : State} {course : Course} {g : Gate} {k : Nat} {i : Slot} (hk : course.gateOf k = some g)
    (hi : (s.queue k).head? = some i) :
    (⟨k, i, ((s.run i).bind (·.lastTime)).getD 0⟩ : Head) ∈ s.heads (s.candidates course g) := by
  refine State.mem_heads.mpr ⟨State.mem_candidates.mpr ⟨hk, ?_⟩, hi, rfl⟩
  intro hnil
  rw [hnil] at hi
  cases hi

/-- The start head takes the crossing when no ON_COURSE head is eligible (R95). -/
theorem State.placeAmong_start {s : State} {c : Crossing} {course : Course} {i : Slot}
    (hgate : course.gateOf 0 = some c.gate) (hi : (s.queue 0).head? = some i)
    (hsoon : ∀ k j, 0 < k → course.gateOf k = some c.gate → (s.queue k).head? = some j → s.TooSoonAt course c.time k j) :
    s.placeAmong course c = s.advance i c false := by
  have hchoice := chooseHead_start (s.eligible_sorted course c)
    (List.mem_filter.mpr ⟨State.head_mem hgate hi, by simp [Head.eligible]⟩) rfl fun h hh => by
      obtain ⟨hh, heligible⟩ := List.mem_filter.mp hh
      obtain ⟨hstep, hslot, -⟩ := State.mem_heads.mp hh
      by_contra hne
      have hnot := (hsoon h.step h.slot (Nat.pos_of_ne_zero hne) (State.mem_candidates.mp hstep).1 hslot).not_eligible hh
      rw [hnot] at heligible
      cases heligible
  rw [State.placeAmong, hchoice]

/-- Starting the head of the start queue moves it to the tail of the step-1 queue and touches no other (R69). -/
theorem startRun_queues {i : Slot} {q0 q1 : List Slot} {qs : List (List Slot)} (h0 : i ∉ q0) (h1 : i ∉ q1)
    (hqs : ∀ q ∈ qs, i ∉ q) :
    (((i :: q0) :: q1 :: qs).map fun q => q.filter (· ≠ i)).modify 1 (· ++ [i]) = q0 :: (q1 ++ [i]) :: qs := by
  have hrest : qs.map (fun q => q.filter (· ≠ i)) = qs :=
    (List.map_congr_left fun q hq => filter_ne_self (hqs q hq)).trans (List.map_id qs)
  rw [List.map_cons, List.map_cons, hrest, filter_ne_self h1,
    show (i :: q0).filter (· ≠ i) = q0 by rw [List.filter_cons_of_neg (by simp), filter_ne_self h0]]
  rfl

/-- What the crossing becomes when it goes to the start head (R69, R95). -/
theorem State.place_starts {s : State} {c : Crossing} {course : Course} {i : Slot} {q0 q1 : List Slot}
    {qs : List (List Slot)} {r : Run} (hin : s.HeadsInTime c) (hcourse : s.tracker.course = some course)
    (hgate : course.gateOf 0 = some c.gate) (hqueues : s.tracker.queues = (i :: q0) :: q1 :: qs) (h0 : i ∉ q0)
    (h1 : i ∉ q1) (hqs : ∀ q ∈ qs, i ∉ q) (hr : s.run i = some r) (hstate : r.state = .staged)
    (hsoon : ∀ k j, 0 < k → course.gateOf k = some c.gate → (s.queue k).head? = some j → s.TooSoonAt course c.time k j) :
    s.place c = { s with
      tracker := { s.tracker with
        runs := s.tracker.runs.set i (some { r with
          state := .onCourse
          splits := [⟨0, .crossing c.gate c.id c.source, c.time, false⟩]
          deadline := course.deadlineFrom c.time })
        queues := q0 :: (q1 ++ [i]) :: qs }
      session := s.session.store s.clock.count (.runStarted r.number i c.time
        (match c.source with | .sensor => .sensor | .manual => .manual)) } := by
  have hhead : (s.queue 0).head? = some i := by simp [State.queue, hqueues]
  have hsource : (SplitOrigin.crossing c.gate c.id c.source).source =
      match c.source with | .sensor => .sensor | .manual => .manual := by
    cases c.source <;> rfl
  rw [State.place_inTime hcourse ⟨0, hgate⟩ fun k hk j hj => hin.not_overdue hcourse hk hj,
    State.placeAmong_start hgate hhead hsoon, State.advance, hr]
  simp only [hstate, if_true]
  have hdeadline : s.tracker.course.bind (·.deadlineFrom c.time) = course.deadlineFrom c.time := by rw [hcourse]; rfl
  rw [State.startRun_some hr, hqueues, startRun_queues h0 h1 hqs, hdeadline, hsource]

/-- Settles O21: the start head is the choice, and starting its run leaves the state described. -/
theorem takeStartsRun : Obligations.TakeStartsRun := by
  intro s u c rest course i q0 q1 qs r d hl ha hc hin hcourse hgate hqueues h0 h1 hqs hr hstate hsoon hd hu
  obtain rfl := Course.deadlineFrom_eq hd
  exact hu ▸ exec_take hl ha hc (State.place_starts (s := { s with crossings := ⟨rest, s.crossings.nextId⟩ }) hin hcourse
    hgate hqueues h0 h1 hqs hr hstate hsoon)

/-! ## Adding a split (R70, R71) -/

/-- The record with its next split (R70, R80). -/
def Run.withSplit (r : Run) (c : Crossing) (host : Bool) : Run :=
  { r with splits := r.splits ++ [⟨r.splits.length, .crossing c.gate c.id c.source, c.time, host⟩] }

/-- The SPLIT report of the next split (R70, R80). -/
def Run.splitReport (r : Run) (c : Crossing) (host : Bool) : ReportBody :=
  .split r.number r.splits.length c.gate c.id c.time (r.elapsedTo c.time) (c.time - r.lastTime.getD c.time) host

/-- A split before the last step (R70). -/
theorem State.addSplit_next {s : State} {i : Slot} {r : Run} (hr : s.run i = some r)
    (hk : r.splits.length + 1 < r.stepCount) (c : Crossing) (host : Bool) : s.addSplit i c host = { s with
      tracker := { s.tracker with
        runs := s.tracker.runs.set i (some (r.withSplit c host))
        queues := (s.tracker.queues.map fun q => q.filter (· ≠ i)).modify (r.splits.length + 1) (· ++ [i]) }
      session := s.session.store s.clock.count (r.splitReport c host) } := by
  simp only [State.addSplit, hr, Run.awaitedStep]
  exact if_pos hk

/-- The split at the last step (R71). -/
theorem State.addSplit_last {s : State} {i : Slot} {r : Run} (hr : s.run i = some r)
    (hk : r.stepCount ≤ r.splits.length + 1) (c : Crossing) (host : Bool) : s.addSplit i c host = { s with
      tracker := { s.tracker with
        runs := s.tracker.runs.set i (some { r.withSplit c host with state := .finished, endReason := some .finished })
        queues := s.tracker.queues.map fun q => q.filter (· ≠ i) }
      session := (s.session.store s.clock.count (r.splitReport c host)).store s.clock.count
        (.runEnded r.number .finished (some (r.elapsedTo c.time))) } := by
  simp only [State.addSplit, hr, Run.awaitedStep]
  exact if_neg (Nat.not_lt.mpr hk)

/-- The queues after a split, by the queue of each step (R70, R71). -/
theorem addSplit_queues {s : State} {k : Nat} {i : Slot} {q : List Slot} {qs : List (List Slot)} {moves : Prop}
    [Decidable moves] (hq : s.queue k = i :: q) (hiq : i ∉ q) (hother : ∀ k', k' ≠ k → i ∉ s.queue k')
    (hlen : qs.length = s.tracker.queues.length)
    (hqs : ∀ k', k' < qs.length → qs.getD k' [] =
      if k' = k then q else if k' = k + 1 ∧ moves then s.queue k' ++ [i] else s.queue k') :
    (if moves then (s.tracker.queues.map fun q => q.filter (· ≠ i)).modify (k + 1) (· ++ [i])
      else s.tracker.queues.map fun q => q.filter (· ≠ i)) = qs := by
  have hfilter (k' : Nat) : (s.queue k').filter (· ≠ i) = if k' = k then q else s.queue k' := by
    split
    · next heq => rw [heq, hq, List.filter_cons_of_neg (by simp), filter_ne_self hiq]
    · next hne => exact filter_ne_self (hother k' hne)
  refine List.ext_getElem ?_ fun k' hk' hk'' => ?_
  · split <;> simp [hlen]
  · have hold : k' < s.tracker.queues.length := hlen ▸ hk''
    have hget : s.tracker.queues[k'] = s.queue k' := by simp [State.queue, hold]
    have hnew : qs[k'] = qs.getD k' [] := by simp [hk'']
    have hk1 : k + 1 ≠ k := Nat.succ_ne_self k
    rw [hnew, hqs k' hk'']
    by_cases hm : moves
    · simp only [hm, if_true, and_true, List.getElem_modify, List.getElem_map, hget, hfilter]
      by_cases h1 : k + 1 = k'
      · simp [← h1]
      · simp only [h1, if_false, Ne.symm h1]
    · simp only [hm, if_false, and_false, List.getElem_map, hget, hfilter]

/-- The eligible ON_COURSE head that beats every other takes the crossing (R95). -/
theorem State.placeAmong_split {s : State} {c : Crossing} {course : Course} {k : Nat} {i : Slot} {r : Run} {last : Tick}
    (hk : 0 < k) (hgate : course.gateOf k = some c.gate) (hi : (s.queue k).head? = some i) (hr : s.run i = some r)
    (hlast : r.lastTime = some last) (htime : last.toNat + course.intervalTicks k ≤ c.time.toNat)
    (hothers : ∀ k' j, 0 < k' → k' ≠ k → course.gateOf k' = some c.gate → (s.queue k').head? = some j →
      s.TooSoonAt course c.time k' j
      ∨ ∃ r' last', s.run j = some r' ∧ r'.lastTime = some last' ∧ (last < last' ∨ last = last' ∧ k' < k)) :
    s.placeAmong course c = s.advance i c false := by
  have hw : ((s.run i).bind (·.lastTime)).getD 0 = last := by simp [hr, hlast]
  have hmem := hw ▸ State.head_mem hgate hi
  have hchoice := chooseHead_onCourse (s.eligible_sorted course c)
    (List.mem_filter.mpr ⟨hmem, by simp [Head.eligible, htime]⟩) (Nat.ne_of_gt hk) fun h hh hpos hne => by
      obtain ⟨hh, heligible⟩ := List.mem_filter.mp hh
      obtain ⟨hstep, hslot, hhlast⟩ := State.mem_heads.mp hh
      have hstep_ne : h.step ≠ k := by
        intro heq
        refine hne ?_
        obtain ⟨step, slot, hl⟩ := h
        dsimp only at *
        subst heq
        obtain rfl : slot = i := Option.some.inj (hslot.symm.trans hi)
        rw [hhlast, hw]
      obtain hsoon | ⟨r', last', hr', hlast', hbeats⟩ := hothers h.step h.slot (Nat.pos_of_ne_zero hpos) hstep_ne
          (State.mem_candidates.mp hstep).1 hslot
      · rw [hsoon.not_eligible hh] at heligible
        cases heligible
      · have heq : h.last = last' := by simp [hhlast, hr', hlast']
        rw [Head.Beats, heq]
        exact hbeats
  rw [State.placeAmong, hchoice]

/-- What the crossing becomes when it goes to an ON_COURSE head (R70, R71, R95). -/
theorem State.place_splits {s : State} {c : Crossing} {course : Course} {k : Nat} {i : Slot} {r : Run} {last : Tick}
    (hin : s.HeadsInTime c) (hcourse : s.tracker.course = some course) (hk : 0 < k) (hgate : course.gateOf k = some c.gate)
    (hi : (s.queue k).head? = some i) (hr : s.run i = some r) (hstate : r.state = .onCourse)
    (hlast : r.lastTime = some last) (htime : last.toNat + course.intervalTicks k ≤ c.time.toNat)
    (hothers : ∀ k' j, 0 < k' → k' ≠ k → course.gateOf k' = some c.gate → (s.queue k').head? = some j →
      s.TooSoonAt course c.time k' j
      ∨ ∃ r' last', s.run j = some r' ∧ r'.lastTime = some last' ∧ (last < last' ∨ last = last' ∧ k' < k)) :
    s.place c = s.addSplit i c false := by
  rw [State.place_inTime hcourse ⟨k, hgate⟩ fun k hk j hj => hin.not_overdue hcourse hk hj,
    State.placeAmong_split hk hgate hi hr hlast htime hothers, State.advance, hr]
  simp [hstate]

/-- Settles O22: the head described is the choice, and its split leaves the state described. -/
theorem takeAddsSplit : Obligations.TakeAddsSplit := by
  intro s u c rest course k i q qs r start last hl ha hc hin hcourse hk hgate hq hiq hother hr hstate hlen hstart hlast
    htime hothers hqslen hqs
  subst hlen
  have hhead : (s.queue r.splits.length).head? = some i := by rw [hq]; rfl
  have hplace := State.place_splits (s := { s with crossings := ⟨rest, s.crossings.nextId⟩ }) hin hcourse hk hgate
    hhead hr hstate hlast htime hothers
  have hqueues := addSplit_queues hq hiq hother hqslen hqs
  have hreport : r.splitReport c false =
      .split r.number r.splits.length c.gate c.id c.time (c.time - start) (c.time - last) false := by
    simp [Run.splitReport, Run.elapsedTo, hstart, hlast]
  have helapsed : r.elapsedTo c.time = c.time - start := by simp [Run.elapsedTo, hstart]
  refine ⟨fun hnext hu => ?_, fun hfinal hu => ?_⟩
  · rw [if_pos hnext] at hqueues
    rw [hu, ← hqueues, ← hreport]
    exact exec_take hl ha hc (hplace.trans (State.addSplit_next (s := { s with crossings := ⟨rest, s.crossings.nextId⟩ }) hr hnext c false))
  · rw [if_neg (Nat.not_lt.mpr hfinal)] at hqueues
    rw [hu, ← hqueues, ← hreport, ← helapsed]
    exact exec_take hl ha hc (hplace.trans (State.addSplit_last (s := { s with crossings := ⟨rest, s.crossings.nextId⟩ }) hr hfinal c false))

/-! ## Overdue heads end first (R91, R92) -/

/-- What the laws of the queues say of the slot `i` in the queue of step `k` (R84, R85). -/
theorem State.TrackerLaw.mem_queue {s : State} (h : s.TrackerLaw) {k : Nat} {i : Slot} (hi : i ∈ s.queue k) :
    (s.run i).bind (·.queueStep) = some k ∧ (s.queue k).count i = 1 := by
  obtain ⟨-, -, -, -, hcount⟩ := h
  have hk : k < s.tracker.queues.length := by
    by_contra hk
    rw [State.queue, List.getD_eq_default _ _ (Nat.not_lt.mp hk)] at hi
    cases hi
  have hpos := List.count_pos_iff.mpr hi
  have hone := hcount k hk i
  split at hone
  · next hstep => exact ⟨hstep, hone⟩
  · omega

theorem State.TrackerLaw.queue_nodup {s : State} (h : s.TrackerLaw) (k : Nat) : (s.queue k).Nodup := by
  refine List.nodup_iff_count_le_one.mpr fun i => ?_
  by_cases hi : i ∈ s.queue k
  · exact (h.mem_queue hi).2.le
  · exact (List.count_eq_zero.mpr hi).trans_le (Nat.zero_le _)

/-- No slot stands in two queues. -/
def State.QueuesDisjoint (s : State) : Prop := ∀ k k' i, i ∈ s.queue k → i ∈ s.queue k' → k = k'

theorem State.TrackerLaw.disjoint {s : State} (h : s.TrackerLaw) : s.QueuesDisjoint := fun _ _ _ hi hi' =>
  Option.some.inj ((h.mem_queue hi).1.symm.trans (h.mem_queue hi').1)

theorem State.EndedOverTime.queue {s u : State} {es : List Slot} (h : s.EndedOverTime u es) (k : Nat) :
    u.queue k = (s.queue k).filter fun i => !es.contains i := by
  rw [State.queue, h.1]
  exact List.getD_map s.tracker.queues [] _

theorem State.EndedOverTime.course {s u : State} {es : List Slot} (h : s.EndedOverTime u es) :
    u.tracker.course = s.tracker.course := by rw [h.1]

theorem State.EndedOverTime.overdue {s u : State} {es : List Slot} (h : s.EndedOverTime u es) (t : Tick) {i : Slot}
    (hi : i ∉ es) : u.overdue t i = s.overdue t i := by
  rw [State.overdue, h.2 i, if_neg hi, State.overdue]

theorem takeWhile_congr_mem {α : Type} {p q : α → Bool} {l : List α} (h : ∀ x ∈ l, p x = q x) :
    l.takeWhile p = l.takeWhile q := by
  induction l with
  | nil => rfl
  | cons x l ih =>
    rw [List.takeWhile_cons, List.takeWhile_cons, h x List.mem_cons_self,
      ih fun y hy => h y (List.mem_cons_of_mem _ hy)]

/-- In a list without repetitions, removing the elements at its front that `p` holds of is dropping them. -/
theorem filter_not_takeWhile {l : List Slot} (h : l.Nodup) (p : Slot → Bool) :
    (l.filter fun i => !(l.takeWhile p).contains i) = l.dropWhile p := by
  induction l with
  | nil => rfl
  | cons x l ih =>
    obtain ⟨hx, hl⟩ := List.nodup_cons.mp h
    cases hp : p x with
    | true =>
      rw [List.takeWhile_cons_of_pos hp, List.dropWhile_cons_of_pos hp, List.filter_cons_of_neg (by simp), ← ih hl]
      refine List.filter_congr fun i hi => ?_
      have hne : i ≠ x := fun heq => hx (heq ▸ hi)
      simp [hne]
    | false =>
      rw [List.takeWhile_cons_of_neg (by simp [hp]), List.dropWhile_cons_of_neg (by simp [hp])]
      simp

theorem flatMap_filter_of_nil {α β : Type} {p : α → Bool} {f : α → List β} (h : ∀ x, p x = false → f x = [])
    (l : List α) : (l.filter p).flatMap f = l.flatMap f := by
  induction l with
  | nil => rfl
  | cons x l ih =>
    cases hp : p x with
    | true => rw [List.filter_cons_of_pos hp, List.flatMap_cons, List.flatMap_cons, ih]
    | false => rw [List.filter_cons_of_neg (by simp [hp]), List.flatMap_cons, h x hp, ih, List.nil_append]

/-- The steps with empty queues have no heads. -/
theorem State.heads_filter {s : State} {p : Nat → Bool} (h : ∀ k, p k = false → s.queue k = []) (ks : List Nat) :
    s.heads (ks.filter p) = s.heads ks := by
  induction ks with
  | nil => rfl
  | cons k ks ih =>
    unfold State.heads at ih ⊢
    cases hp : p k with
    | true => rw [List.filter_cons_of_pos hp, List.filterMap_cons, List.filterMap_cons, ih]
    | false => rw [List.filter_cons_of_neg (by simp [hp]), List.filterMap_cons, h k hp, ih]; rfl

/-- The overdue slots at the front of each of the queues `ks` (R92). -/
def State.overdueHeads (s : State) (t : Tick) (ks : List Nat) : List Slot :=
  ks.flatMap fun k => (s.queue k).takeWhile (s.overdue t)

theorem State.run_isSome_of_mem_overdueHeads {s : State} {t : Tick} {ks : List Nat} :
    ∀ i ∈ s.overdueHeads t ks, (s.run i).isSome = true := by
  intro i hi
  obtain ⟨k, -, hi⟩ := List.mem_flatMap.mp hi
  obtain ⟨r, -, hr, -⟩ := (s.overdue_iff t i).mp (List.mem_takeWhile_imp hi)
  rw [hr]
  rfl

/-- Ending the overdue heads at one step after another, each time those that are then there, ends those that are there at
the beginning: no run stands in two queues (R92). -/
theorem State.foldl_endOverdueHeads {t : Tick} {ks : List Nat} (hks : ks.Nodup) {s : State} (hs : s.QueuesDisjoint) :
    ks.foldl (State.endOverdueHeads t) s = (s.overdueHeads t ks).foldl State.endOverTime s := by
  induction ks generalizing s with
  | nil => rfl
  | cons k ks ih =>
    obtain ⟨hk, hks⟩ := List.nodup_cons.mp hks
    have hended : s.EndedOverTime (State.endOverdueHeads t s k) ((s.queue k).takeWhile (s.overdue t)) := by
      refine s.foldl_endOverTime fun i hi => ?_
      exact State.run_isSome_of_mem_overdueHeads (ks := [k]) i (by simpa [State.overdueHeads] using hi)
    have hstill (k' : Nat) (hk' : k' ∈ ks) (i : Slot) (hi : i ∈ s.queue k') :
        i ∉ (s.queue k).takeWhile (s.overdue t) := fun hmem =>
      hk (hs k k' i ((List.takeWhile_sublist _).mem hmem) hi ▸ hk')
    have hqueue (k' : Nat) (hk' : k' ∈ ks) : (State.endOverdueHeads t s k).queue k' = s.queue k' := by
      rw [hended.queue]
      exact List.filter_eq_self.mpr fun i hi => by simpa using hstill k' hk' i hi
    have hdisjoint : (State.endOverdueHeads t s k).QueuesDisjoint := by
      intro k' k'' i hi hi'
      rw [hended.queue] at hi hi'
      exact hs k' k'' i (List.mem_filter.mp hi).1 (List.mem_filter.mp hi').1
    have hheads : (State.endOverdueHeads t s k).overdueHeads t ks = s.overdueHeads t ks := by
      unfold State.overdueHeads
      refine List.flatMap_congr fun k' hk' => ?_
      rw [hqueue k' hk']
      exact takeWhile_congr_mem fun i hi => hended.overdue t (hstill k' hk' i hi)
    rw [List.foldl_cons, ih hks hdisjoint, hheads]
    exact (List.foldl_append ..).symm

/-- What becomes of a crossing is what becomes of it once the overdue heads have ended (R91, R92). -/
theorem State.place_ended {s u : State} {c : Crossing} {course : Course} (hlaw : s.TrackerLaw)
    (hcourse : s.tracker.course = some course)
    (hu : s.EndedOverTime u (s.overdueHeads c.time (course.stepsAt c.gate))) : s.place c = u.place c := by
  by_cases hgate : ∃ k, course.gateOf k = some c.gate
  · have hheadsAt : s.overdueHeads c.time (s.candidates course c.gate) =
        s.overdueHeads c.time (course.stepsAt c.gate) := by
      rw [State.candidates_eq]
      exact flatMap_filter_of_nil (fun k hk => by rw [(by simpa using hk : s.queue k = [])]; rfl) _
    have hfold : (s.candidates course c.gate).foldl (State.endOverdueHeads c.time) s = u := by
      rw [State.foldl_endOverdueHeads ((s.candidates_sorted course c.gate).imp Nat.ne_of_lt) hlaw.disjoint, hheadsAt]
      exact hu.eq_foldl State.run_isSome_of_mem_overdueHeads
    have hheads : u.heads (s.candidates course c.gate) = u.heads (u.candidates course c.gate) := by
      rw [State.candidates_eq, State.candidates_eq, State.heads_filter, State.heads_filter]
      · exact fun k hk => by simpa using hk
      · intro k hk
        rw [hu.queue, (by simpa using hk : s.queue k = [])]
        rfl
    have hinTime : ∀ k, course.gateOf k = some c.gate → ∀ i, (u.queue k).head? = some i → u.overdue c.time i = false := by
      intro k hk i hi
      have hmem (j : Slot) (hj : j ∈ s.queue k) : j ∈ s.overdueHeads c.time (course.stepsAt c.gate)
          ↔ j ∈ (s.queue k).takeWhile (s.overdue c.time) := by
        refine ⟨fun hj' => ?_, fun hj' => List.mem_flatMap.mpr ⟨k, Course.mem_stepsAt.mpr hk, hj'⟩⟩
        obtain ⟨k', -, hj'⟩ := List.mem_flatMap.mp hj'
        rwa [hlaw.disjoint k k' j hj ((List.takeWhile_sublist _).mem hj')]
      have hqueue : u.queue k = (s.queue k).dropWhile (s.overdue c.time) := by
        rw [hu.queue, ← filter_not_takeWhile (hlaw.queue_nodup k)]
        exact List.filter_congr fun j hj => by simp [hmem j hj]
      have hleft : i ∈ u.queue k := List.mem_of_head? hi
      rw [hu.queue, List.mem_filter] at hleft
      rw [hu.overdue c.time (by simpa using hleft.2)]
      have hhead := List.head?_dropWhile_not (s.overdue c.time) (s.queue k)
      rw [← hqueue, hi] at hhead
      simpa using hhead
    rw [State.place_inTime (hu.course.trans hcourse) hgate hinTime]
    simp only [State.place, hcourse, Course.usesGate_iff.mpr hgate, if_true, hfold, hheads]
    rfl
  · have hnone : course.stepsAt c.gate = [] :=
      List.eq_nil_iff_forall_not_mem.mpr fun k hk => hgate ⟨k, Course.mem_stepsAt.mp hk⟩
    rw [hnone] at hu
    rw [hu.unique (.nil s)]

/-- Settles O23: the take of the state so left places the same crossing in the same state. -/
theorem overdueHeadsEndFirst : Obligations.OverdueHeadsEndFirst := by
  intro s u c rest course late hlaw hl ha hc hcourse hlate hu
  have hoverdue : late = s.overdue c.time :=
    funext fun i => Bool.eq_iff_iff.mpr ((hlate i).trans (s.overdue_iff c.time i).symm)
  have hended : State.EndedOverTime { s with crossings := ⟨rest, s.crossings.nextId⟩ }
      { u with crossings := ⟨rest, u.crossings.nextId⟩ } (s.overdueHeads c.time (course.stepsAt c.gate)) := by
    rw [hoverdue] at hu
    exact ⟨congrArg (fun v : State => { v with crossings := ⟨rest, v.crossings.nextId⟩ }) hu.1, hu.2⟩
  have hchange : u.pins = s.pins ∧ u.tracker.assignment = s.tracker.assignment ∧ u.crossings = s.crossings := by
    rw [hu.1]
    exact ⟨rfl, rfl, rfl⟩
  obtain ⟨hpins, hassignment, hcrossings⟩ := hchange
  rw [exec_take hl ha hc (State.place_ended (s := { s with crossings := ⟨rest, s.crossings.nextId⟩ }) hlaw hcourse hended)]
  exact (exec_take (hpins ▸ hl) (hassignment ▸ ha) (hcrossings ▸ hc) rfl).symm

end Sys2Proof.Machine
end

section
/-! PROOFS. Group starts and the assignment state (R42, R69, R87, R88, R98 to R100): starting the whole start queue in its order,
the clock-start event, START GROUP, and the hold. -/

namespace Sys2Proof.Machine

/-! ## Starting the whole start queue -/

/-- `u` is `s` with the runs in the slots `is`, at the head of the start queue, started (R69, R98). -/
def State.StartedFrom (s u : State) (is q1 : List Slot) (qs : List (List Slot)) (course : Course) (t : Tick) : Prop :=
  u = { s with
    tracker := { s.tracker with runs := u.tracker.runs, queues := [] :: (q1 ++ is) :: qs }
    session := is.foldl (fun ss i =>
      match s.run i with
      | some r => ss.store s.clock.count (.runStarted r.number i t .group)
      | none => ss) s.session }
  ∧ ∀ i : Slot, u.run i = if i ∈ is then
      (s.run i).map fun r =>
        { r with state := .onCourse, splits := [⟨0, .group, t, false⟩], deadline := course.deadlineFrom t }
    else s.run i

theorem State.StartedFrom.unique {s u v : State} {is q1 : List Slot} {qs : List (List Slot)} {course : Course} {t : Tick}
    (hu : s.StartedFrom u is q1 qs course t) (hv : s.StartedFrom v is q1 qs course t) : u = v := by
  obtain ⟨hu, hru⟩ := hu
  obtain ⟨hv, hrv⟩ := hv
  have hruns : u.tracker.runs = v.tracker.runs :=
    Vector.ext fun i hi => (hru ⟨i, hi⟩).trans (hrv ⟨i, hi⟩).symm
  rw [hu, hv, hruns]

theorem foldl_congr_mem {α β : Type} {f g : α → β → α} {bs : List β} (h : ∀ a, ∀ b ∈ bs, f a b = g a b) (a : α) :
    bs.foldl f a = bs.foldl g a := by
  induction bs generalizing a with
  | nil => rfl
  | cons b bs ih =>
    rw [List.foldl_cons, List.foldl_cons, h a b List.mem_cons_self]
    exact ih (fun a b hb => h a b (List.mem_cons_of_mem _ hb)) _

/-- The runs of the start queue start one after another, each at the head of what is left of it (R98). -/
theorem State.foldl_startRun {course : Course} {t : Tick} {is q1 : List Slot} {qs : List (List Slot)} {s : State}
    (hcourse : s.tracker.course = some course) (hqueues : s.tracker.queues = is :: q1 :: qs) (hnodup : is.Nodup)
    (h1 : ∀ i ∈ is, i ∉ q1) (hqs : ∀ i ∈ is, ∀ q ∈ qs, i ∉ q) (hruns : ∀ i ∈ is, (s.run i).isSome = true) :
    s.StartedFrom (is.foldl (fun s i => s.startRun i .group t false) s) is q1 qs course t := by
  induction is generalizing s q1 with
  | nil =>
    refine ⟨?_, fun i => by simp⟩
    simp [← hqueues]
  | cons i is ih =>
    obtain ⟨hi, his⟩ := List.nodup_cons.mp hnodup
    obtain ⟨r, hr⟩ := Option.isSome_iff_exists.mp (hruns i List.mem_cons_self)
    have hstart := State.startRun_some hr .group t false
    rw [hqueues, startRun_queues hi (h1 i List.mem_cons_self) (hqs i List.mem_cons_self), hcourse] at hstart
    have hne {j : Slot} (hj : j ∈ is) : j ≠ i := fun heq => hi (heq ▸ hj)
    have hrun (j : Slot) : (s.startRun i .group t false).run j = if j = i then
        some { r with state := .onCourse, splits := [⟨0, .group, t, false⟩], deadline := course.deadlineFrom t }
        else s.run j := by
      rw [hstart]
      refine (State.run_setRun s i j _).trans ?_
      by_cases hij : i = j
      · rw [if_pos hij, if_pos hij.symm]
        rfl
      · rw [if_neg hij, if_neg (Ne.symm hij)]
    have hrest := ih (s := s.startRun i .group t false) (q1 := q1 ++ [i]) (by rw [hstart]; exact hcourse) (by rw [hstart])
      his (fun j hj => by simp [h1 j (List.mem_cons_of_mem _ hj), hne hj])
      (fun j hj => hqs j (List.mem_cons_of_mem _ hj))
      (fun j hj => by rw [hrun j, if_neg (hne hj)]; exact hruns j (List.mem_cons_of_mem _ hj))
    obtain ⟨hstate, hrunrest⟩ := hrest
    have hsession : is.foldl (fun ss j =>
        match (s.startRun i .group t false).run j with
        | some r => ss.store (s.startRun i .group t false).clock.count (.runStarted r.number j t .group)
        | none => ss) (s.startRun i .group t false).session = (i :: is).foldl (fun ss j =>
        match s.run j with
        | some r => ss.store s.clock.count (.runStarted r.number j t .group)
        | none => ss) s.session := by
      rw [List.foldl_cons, hr]
      refine (foldl_congr_mem (fun ss j hj => ?_) _).trans (congrArg (fun ss => is.foldl _ ss) ?_)
      · rw [hrun j, if_neg (hne hj), hstart]
      · rw [hstart]
        rfl
    rw [List.foldl_cons]
    refine ⟨hstate.trans ?_, fun j => ?_⟩
    · generalize (is.foldl (fun s i => s.startRun i .group t false) (s.startRun i .group t false)).tracker.runs = runs
      rw [hsession]
      simp only [hstart, List.append_assoc, List.singleton_append]
    · rw [hrunrest j, hrun j]
      by_cases hji : j = i
      · subst hji
        simp [hi, hr]
      · simp [hji]

theorem State.queue_of_queues {s : State} {q0 q1 : List Slot} {qs : List (List Slot)}
    (h : s.tracker.queues = q0 :: q1 :: qs) : s.queue 0 = q0 ∧ s.queue 1 = q1 ∧ ∀ q ∈ qs, ∃ k, s.queue (k + 2) = q := by
  refine ⟨by simp [State.queue, h], by simp [State.queue, h], fun q hq => ?_⟩
  obtain ⟨k, hk, rfl⟩ := List.mem_iff_getElem.mp hq
  exact ⟨k, by simp [State.queue, h, hk]⟩

/-- A group start leaves what `GroupStarted` describes, once the deadlines are examined (R98, R100). -/
theorem State.groupStart_eq {s u : State} {course : Course} {t : Tick} (hlaw : s.TrackerLaw)
    (hcourse : s.tracker.course = some course) (hu : s.GroupStarted u course t) :
    s.groupStart t = u.examineDeadlines := by
  obtain ⟨⟨q0, q1, qs, hqueues, hu⟩, hrun⟩ := hu
  obtain ⟨h0, h1, hqs⟩ := State.queue_of_queues hqueues
  rw [h0] at hrun
  have hstarted := State.foldl_startRun (t := t) hcourse hqueues (h0 ▸ hlaw.queue_nodup 0)
    (fun i hi hi' => absurd (hlaw.disjoint 0 1 i (h0 ▸ hi) (h1 ▸ hi')) (by decide))
    (fun i hi q hq hi' => by
      obtain ⟨k, rfl⟩ := hqs q hq
      exact absurd (hlaw.disjoint 0 (k + 2) i (h0 ▸ hi) hi') (by omega))
    (fun i hi => by
      obtain ⟨r, hr, -⟩ := Option.bind_eq_some_iff.mp (hlaw.mem_queue (k := 0) (h0 ▸ hi)).1
      rw [hr]
      rfl)
  rw [State.groupStart, h0, hstarted.unique ⟨hu, hrun⟩]

theorem State.clockStartEvent_group {s : State} {course : Course} (hcourse : s.tracker.course = some course)
    (hmode : course.mode = .group) (hq : s.queue 0 ≠ []) (t : Tick) : s.clockStartEvent t = s.groupStart t := by
  simp only [State.clockStartEvent, hcourse]
  exact if_pos ⟨hmode, hq⟩

/-- Without a group start the clock-start event changes nothing (R99). -/
theorem State.clockStartEvent_none {s : State}
    (h : ∀ course, s.tracker.course = some course → course.mode = .gate ∨ s.queue 0 = []) (t : Tick) :
    s.clockStartEvent t = s := by
  unfold State.clockStartEvent
  split
  · next course hcourse =>
    refine if_neg ?_
    rintro ⟨hmode, hq⟩
    obtain hgate | hempty := h course hcourse
    · exact absurd (hmode.symm.trans hgate) nofun
    · exact hq hempty
  · rfl

/-! ## START GROUP (R98) -/

theorem parseStartGroup_none {p b3 b2 b1 b0 : Byte} (h : 1 < p.toNat) : parseStartGroup [p, b3, b2, b1, b0] = none := by
  simp [parseStartGroup, parseYesNo_none h]

theorem parseStartGroup_some {p b3 b2 b1 b0 : Byte} (h : p.toNat ≤ 1) :
    parseStartGroup [p, b3, b2, b1, b0] = some (if p = 0 then none else some (word32 b3 b2 b1 b0)) := by
  obtain rfl | rfl := byte_zero_or_one (Nat.not_lt.mpr h) <;> rfl

theorem State.startGroup_refused {s : State} {time : Option Tick}
    (h : ∀ course, s.tracker.course = some course → course.mode = .gate ∨ s.clock.state.counting = false ∨ s.queue 0 = []) :
    s.startGroup time = (s, .refuse .wrongState) := by
  unfold State.startGroup
  split
  · rfl
  · next course hcourse =>
    split
    · rfl
    · next hmode =>
      split
      · rfl
      · next hcounting =>
        exact if_pos (((h course hcourse).resolve_left hmode).resolve_left hcounting)

/-- START GROUP on a GROUP course, with the clock counting and a run staged: the check of its time, and the start (R98). -/
theorem State.startGroup_group {s : State} {time : Option Tick} {course : Course}
    (hcourse : s.tracker.course = some course) (hmode : course.mode = .group) (hcounting : s.clock.state.counting = true)
    (hq : s.queue 0 ≠ []) : s.startGroup time =
      if s.clock.count < time.getD s.clock.count then (s, .refuse .badValue)
      else (s.groupStart (time.getD s.clock.count),
        .ok (bytes32 (time.getD s.clock.count) ++ [byteOf (s.queue 0).length])) := by
  simp [State.startGroup, hcourse, hmode, hcounting, hq]

/-- Settles O25: the clock-start event by the course and the start queue, and the act of START GROUP by its checks. -/
theorem groupsStart : Obligations.GroupsStart := by
  refine ⟨fun s u course t hlaw hcourse hmode hq hu =>
      (State.clockStartEvent_group hcourse hmode hq t).trans (State.groupStart_eq hlaw hcourse hu),
    fun s t h => State.clockStartEvent_none h t, ?_⟩
  intro s tag p b3 b2 b1 b0 t hc hn ht
  refine ⟨fun hp => congrArg Host.Outcome.next (State.live_serve_badValue (startGroup_ignoresLink.beside s) hn rfl hc
    (parseStartGroup_none hp)), fun hp => ?_⟩
  have hexec {u : State} {r : Response}
      (ha : s.startGroup (if p = 0 then none else some (word32 b3 b2 b1 b0)) = (u, r)) :
      exec .startGroup s = .next (u.setLink (s.link.answer r)) := congrArg Host.Outcome.next <|
    State.live_serve_acts (startGroup_ignoresLink.beside s) hn rfl hc (parseStartGroup_some hp) ha
  have htime : (if p = 0 then none else some (word32 b3 b2 b1 b0)).getD s.clock.count = t := by
    rw [ht]
    split <;> rfl
  refine ⟨fun h => hexec (State.startGroup_refused h), fun course hcourse hmode hcounting hq => ?_⟩
  have hact := State.startGroup_group (time := if p = 0 then none else some (word32 b3 b2 b1 b0)) hcourse hmode hcounting hq
  rw [htime] at hact
  refine ⟨fun hlate => hexec (hact.trans (if_pos hlate)), fun u hlaw hle hu => ?_⟩
  rw [State.groupStart_eq hlaw hcourse hu] at hact
  exact hexec (hact.trans (if_neg (BitVec.not_lt.mpr hle)))

/-! ## The assignment state (R42, R87, R88) -/

theorem State.holdAssignment_opened {s : State} (h : s.session.state = .opened) : s.holdAssignment () =
    ({ s with tracker := { s.tracker with assignment := .held } }, .ok) := if_pos h

theorem State.holdAssignment_refused {s : State} (h : s.session.state ≠ .opened) :
    s.holdAssignment () = (s, .refuse .notOpen) := if_neg h

/-- Settles O26: the two requests' acts, and the take that does not arise. -/
theorem holdStopsTheTakes : Obligations.HoldStopsTheTakes := by
  have hhold {s t : State} {tag : Byte} {r : Response} (hc : s.session.state ≠ .closed) (hn : s.NextIs 0x30 tag [])
      (ha : s.holdAssignment () = (t, r)) : exec .holdAssignment s = .next (t.setLink (s.link.answer r)) :=
    congrArg Host.Outcome.next (State.live_serve_acts (holdAssignment_ignoresLink.beside s) hn rfl hc rfl ha)
  refine ⟨fun s tag hn => ⟨fun hs => ?_, fun hs => ?_⟩, fun s tag hc hn => ?_, fun s h => ?_⟩
  · exact hhold (by simp [hs]) hn (State.holdAssignment_opened hs)
  · exact hhold (by simp [hs]) hn (State.holdAssignment_refused (by simp [hs]))
  · exact congrArg Host.Outcome.next
      (State.live_serve_acts (releaseAssignment_ignoresLink.beside s) hn rfl hc rfl rfl)
  · have htake : s.take = s := by
      obtain h | h := h
      · simp [State.take, h]
      · cases ha : s.tracker.assignment <;> simp [State.take, h, ha]
    obtain hlive | ⟨-, hlive⟩ := s.live_cases State.take
    · exact congrArg Host.Outcome.next hlive
    · exact congrArg Host.Outcome.next (hlive.trans htake)

end Sys2Proof.Machine
end

section
/-! PROOFS. Staging, withdrawing and releasing a run (R67, R76, R78): the look-up of a run number and of a FREE slot, and
the steps of the three requests. -/

namespace Sys2Proof.Machine

/-! ## The run number that a request carries (R107) -/

theorem State.findRun_none {s : State} {n : Word} (h : ∀ i r, s.run i = some r → r.number ≠ n) : s.findRun n = none := by
  by_contra hne
  obtain ⟨⟨i, r⟩, hf⟩ := Option.ne_none_iff_exists'.mp hne
  obtain ⟨hr, hn⟩ := State.findRun_some hf
  exact h i r hr hn

section RunRequest

variable {act : State → Word → State × Response} {s : State} {code tag hi lo : Byte}

/-- A request whose one field is the run number 0 is refused (R107). -/
theorem live_parseRun_zero (hact : IgnoresLink act) (hf : payloadFits code [hi, lo] = some true)
    (hc : s.session.state ≠ .closed) (hn : s.NextIs code tag [hi, lo]) (h0 : word16 hi lo = 0) :
    s.live (·.serve (codeIs code) parseRun act) = s.setLink (s.link.answer (.refuse .badValue)) :=
  State.live_serve_badValue (hact.beside s) hn hf hc (parseRunNumber_zero h0)

/-- A request whose one field is a run number is its act, and the reply. -/
theorem live_parseRun {t : State} {r : Response} (hact : IgnoresLink act) (hf : payloadFits code [hi, lo] = some true)
    (hc : s.session.state ≠ .closed) (hn : s.NextIs code tag [hi, lo]) (h0 : word16 hi lo ≠ 0)
    (ha : act s (word16 hi lo) = (t, r)) :
    s.live (·.serve (codeIs code) parseRun act) = t.setLink (s.link.answer r) :=
  State.live_serve_acts (hact.beside s) hn hf hc (parseRunNumber_some h0) ha

end RunRequest

/-! ## STAGE RUN (R67) -/

theorem State.freeSlot_none {s : State} (h : ∀ i, s.run i ≠ none) : s.freeSlot = none :=
  List.find?_eq_none.mpr fun i _ => by simpa using h i

/-- The look-up goes through the slots in ascending order (R67). -/
theorem State.freeSlot_lowest {s : State} {i : Slot} (hi : s.run i = none) (hlow : ∀ j : Slot, j < i → s.run j ≠ none) :
    s.freeSlot = some i := by
  cases hf : s.freeSlot with
  | none => simpa [hi] using List.find?_eq_none.mp hf i (mem_allSlots i)
  | some j =>
    have hj : s.run j = none := by simpa using List.find?_some hf
    have hge : ¬ j < i := fun hlt => hlow j hlt hj
    obtain ⟨k, hk, hkj, hbefore⟩ := List.find?_eq_some_iff_getElem.mp hf |>.2
    have hval {m : Nat} (hm : m < Config.allSlots.length) : (Config.allSlots[m]).val = m :=
      congrArg Fin.val (List.getElem_finRange hm)
    have hle : ¬ i < j := fun hlt => by
      have hik : i.val < k := Nat.lt_of_lt_of_eq hlt ((congrArg Fin.val hkj).symm.trans (hval hk))
      have hat : Config.allSlots[i.val]'(hik.trans hk) = i := Fin.ext (hval _)
      have hskip := hbefore i.val hik
      rw [hat, hi] at hskip
      cases hskip
    rw [Fin.le_antisymm (Fin.not_lt.mp hle) (Fin.not_lt.mp hge)]

section StageRun

variable {s : State} {n : Word} {course : Course}

theorem State.stageRun_noCourse (h : s.tracker.course = none) : s.stageRun n = (s, .refuse .noCourse) := by
  simp only [State.stageRun, h]

theorem State.stageRun_duplicate (h : s.tracker.course = some course) {i : Slot} {r : Run} (hr : s.run i = some r)
    (hn : r.number = n) : s.stageRun n = (s, .refuse .duplicate) := by
  simp only [State.stageRun, h]
  exact if_pos (Option.isSome_iff_ne_none.mpr (State.findRun_ne_none hr hn))

theorem State.stageRun_tableFull (h : s.tracker.course = some course) (hnew : s.findRun n = none)
    (hfull : ∀ i, s.run i ≠ none) : s.stageRun n = (s, .refuse .tableFull) := by
  simp [State.stageRun, h, hnew, State.freeSlot_none hfull]

theorem State.stageRun_stages (h : s.tracker.course = some course) (hnew : s.findRun n = none) {i : Slot}
    (hfree : s.freeSlot = some i) {q0 : List Slot} {qs : List (List Slot)} (hq : s.tracker.queues = q0 :: qs) :
    s.stageRun n = ((s.setRun i (some (Run.stagedOn course n))).setQueues ((q0 ++ [i]) :: qs), .ok [byteOf i]) := by
  simp [State.stageRun, h, hnew, hfree, State.joinTail, hq]

end StageRun

/-- Settles O31: the step of the request, by its checks in their order. -/
theorem stageRunStages : Obligations.StageRunStages := by
  rintro s tag hi lo _ hc hn rfl
  have hexec {t : State} {r : Response} (h0 : word16 hi lo ≠ 0) (ha : s.stageRun (word16 hi lo) = (t, r)) :
      exec .stageRun s = .next (t.setLink (s.link.answer r)) :=
    congrArg Host.Outcome.next (live_parseRun stageRun_ignoresLink rfl hc hn h0 ha)
  refine ⟨fun h0 => congrArg Host.Outcome.next (live_parseRun_zero stageRun_ignoresLink rfl hc hn h0),
    fun h0 hnone => hexec h0 (State.stageRun_noCourse hnone), fun h0 course hsome => ⟨?_, fun hnew => ⟨?_, ?_⟩⟩⟩
  · rintro ⟨i, r, hr, hnr⟩
    exact hexec h0 (State.stageRun_duplicate hsome hr hnr)
  · exact fun hfull => hexec h0 (State.stageRun_tableFull hsome (State.findRun_none hnew) hfull)
  · exact fun i hfree hlow q0 qs hq =>
      hexec h0 (State.stageRun_stages hsome (State.findRun_none hnew) (State.freeSlot_lowest hfree hlow) hq)

/-! ## WITHDRAW RUN and RELEASE RUN (R76, R78) -/

/-- STAGED and ON_COURSE are the active states (5.4). -/
theorem RunState.active_iff {st : RunState} : st.active = true ↔ st = .staged ∨ st = .onCourse := by
  cases st <;> simp [RunState.active]

theorem RunState.not_active_iff {st : RunState} :
    st.active = false ↔ st = .finished ∨ st = .notFinished ∨ st = .withdrawn := by
  cases st <;> simp [RunState.active]

section WithdrawAndRelease

variable {s : State} {n : Word} {i : Slot} {r : Run}

theorem State.withdrawRun_notFound (h : s.findRun n = none) : s.withdrawRun n = (s, .refuse .notFound) := by
  simp only [State.withdrawRun, h]

theorem State.withdrawRun_wrongState (h : s.findRun n = some (i, r)) (hr : r.state.active = false) :
    s.withdrawRun n = (s, .refuse .wrongState) := by
  simp [State.withdrawRun, h, hr]

theorem State.withdrawRun_ok (h : s.findRun n = some (i, r)) (hr : r.state.active = true) :
    s.withdrawRun n = (((s.dequeue i).setRun i (some { r with state := .withdrawn, endReason := some .withdrawn })).report
      (.runEnded r.number .withdrawn none), .ok) := by
  simp [State.withdrawRun, h, hr]

theorem State.releaseRun_notFound (h : s.findRun n = none) : s.releaseRun n = (s, .refuse .notFound) := by
  simp only [State.releaseRun, h]

theorem State.releaseRun_wrongState (h : s.findRun n = some (i, r)) (hr : r.state.active = true) :
    s.releaseRun n = (s, .refuse .wrongState) := by
  simp [State.releaseRun, h, hr]

theorem State.releaseRun_ok (h : s.findRun n = some (i, r)) (hr : r.state.active = false) :
    s.releaseRun n = (s.setRun i none, .ok) := by
  simp [State.releaseRun, h, hr]

end WithdrawAndRelease

/-- Settles O32: the steps of the two requests, by what the look-up finds and by the state of the run found. -/
theorem withdrawAndReleaseRun : Obligations.WithdrawAndReleaseRun := by
  rintro s tag hi lo _ hc rfl hd
  refine ⟨fun hn => ?_, fun hn => ?_⟩
  · have hexec {t : State} {r : Response} (h0 : word16 hi lo ≠ 0) (ha : s.withdrawRun (word16 hi lo) = (t, r)) :
        exec .withdrawRun s = .next (t.setLink (s.link.answer r)) :=
      congrArg Host.Outcome.next (live_parseRun withdrawRun_ignoresLink rfl hc hn h0 ha)
    refine ⟨fun h0 => congrArg Host.Outcome.next (live_parseRun_zero withdrawRun_ignoresLink rfl hc hn h0),
      fun h0 hmiss => hexec h0 (State.withdrawRun_notFound (State.findRun_none hmiss)), fun i r h0 hr hnr => ⟨?_, ?_⟩⟩
    · exact fun hended => hexec h0
        (State.withdrawRun_wrongState (State.findRun_eq hd hr hnr) (RunState.not_active_iff.mpr hended))
    · intro hactive
      rw [← hnr]
      exact hexec h0 (State.withdrawRun_ok (State.findRun_eq hd hr hnr) (RunState.active_iff.mpr hactive))
  · have hexec {t : State} {r : Response} (h0 : word16 hi lo ≠ 0) (ha : s.releaseRun (word16 hi lo) = (t, r)) :
        exec .releaseRun s = .next (t.setLink (s.link.answer r)) :=
      congrArg Host.Outcome.next (live_parseRun releaseRun_ignoresLink rfl hc hn h0 ha)
    refine ⟨fun h0 => congrArg Host.Outcome.next (live_parseRun_zero releaseRun_ignoresLink rfl hc hn h0),
      fun h0 hmiss => hexec h0 (State.releaseRun_notFound (State.findRun_none hmiss)), fun i r h0 hr hnr => ⟨?_, ?_⟩⟩
    · exact fun hactive => hexec h0
        (State.releaseRun_wrongState (State.findRun_eq hd hr hnr) (RunState.active_iff.mpr hactive))
    · exact fun hended => hexec h0
        (State.releaseRun_ok (State.findRun_eq hd hr hnr) (RunState.not_active_iff.mpr hended))

end Sys2Proof.Machine
end

section
/-! PROOFS. The reads of the course and the Run Table (R56, R79 to R81): the bytes of a split entry, the entries of a
run's splits by their place, and the steps of the three requests. -/

namespace Sys2Proof.Machine

/-! ## The bytes of the split entries (10.4, R80) -/

theorem splitDescriptor_sensor (k : Nat) (g : Gate) (id t : Tick) (h : Bool) :
    splitDescriptor ⟨k, .crossing g id .sensor, t, h⟩ = 8 + BitVec.ofNat 8 g + if h then 64 else 0 := by
  simp [splitDescriptor, SplitOrigin.source, SplitSource.code, byteOf, BitVec.add_comm]

theorem splitDescriptor_manual (k : Nat) (g : Gate) (id t : Tick) (h : Bool) :
    splitDescriptor ⟨k, .crossing g id .manual, t, h⟩ = 16 + 8 + BitVec.ofNat 8 g + if h then 64 else 0 := by
  simp only [splitDescriptor, SplitOrigin.source, SplitSource.code, byteOf]
  bv_omega

theorem splitDescriptor_group (k : Nat) (t : Tick) (h : Bool) :
    splitDescriptor ⟨k, .group, t, h⟩ = 32 + if h then 64 else 0 := by
  simp [splitDescriptor, SplitOrigin.source, SplitSource.code]

/-- The time of the split at place `k`, 0 when there is none. -/
def splitTime (splits : List Split) (k : Nat) : Tick := (splits[k]?.map (·.time)).getD 0

/-- Each entry is that of its split, its segment measured from the split one place before (R80). -/
theorem splitEntries_eq (start before : Tick) (splits : List Split) :
    splitEntries start before splits = (List.range splits.length).flatMap fun k =>
      splits[k]?.elim [] (splitEntry start (if k = 0 then before else splitTime splits (k - 1))) := by
  induction splits generalizing before with
  | nil => rfl
  | cons sp rest ih =>
    rw [splitEntries, ih, List.length_cons, List.range_succ_eq_map, List.flatMap_cons, List.flatMap_map]
    refine congrArg (splitEntry start before sp ++ ·) (List.flatMap_congr fun k _ => ?_)
    cases k with
    | zero => simp [splitTime]
    | succ k => simp [splitTime]

/-- The entries of a run: both intervals of step 0 are measured from its own time (R80). -/
theorem runEntries_eq (splits : List Split) (start : Tick) (h : start = splitTime splits 0) :
    splitEntries start start splits = (List.range splits.length).flatMap fun k =>
      splits[k]?.elim [] (splitEntry (splitTime splits 0) (splitTime splits (k - 1))) := by
  subst h
  rw [splitEntries_eq]
  refine List.flatMap_congr fun k _ => ?_
  by_cases hk : k = 0
  · subst hk; rfl
  · rw [if_neg hk]

theorem Run.startTime_eq (r : Run) : r.startTime.getD 0 = splitTime r.splits 0 := by
  rw [Run.startTime, splitTime, List.head?_eq_getElem?]

/-! ## The steps of the reads -/

theorem State.getCourse_noCourse {s : State} (h : s.tracker.course = none) : s.getCourse () = (s, .refuse .noCourse) := by
  simp only [State.getCourse, h]

theorem State.getCourse_ok {s : State} {c : Course} (h : s.tracker.course = some c) :
    s.getCourse () = (s, .ok (coursePayload c)) := by
  simp only [State.getCourse, h]

theorem State.readRun_notFound {s : State} {n : Word} (h : s.findRun n = none) : s.readRun n = (s, .refuse .notFound) := by
  simp only [State.readRun, h]

theorem State.readRun_ok {s : State} {n : Word} {i : Slot} {r : Run} (h : s.findRun n = some (i, r)) :
    s.readRun n = (s, .ok (runPayload i r)) := by
  simp only [State.readRun, h]

/-- Settles O30: the steps of the three reads, and the bytes of their payloads. -/
theorem readCourseAndRuns : Obligations.ReadCourseAndRuns := by
  refine ⟨fun s tag hc hn => ?_, fun s tag hi lo n hc hdef hn hd => ?_, fun s tag hc hn => ?_⟩
  · have hexec {r : Response} (ha : s.getCourse () = (s, r)) :
        exec .getCourse s = .next (s.setLink (s.link.answer r)) :=
      congrArg Host.Outcome.next (State.live_serve_acts (getCourse_ignoresLink.beside s) hn rfl hc rfl ha)
    refine ⟨fun hnone => hexec (State.getCourse_noCourse hnone), fun c hsome => ?_⟩
    rw [hexec (State.getCourse_ok hsome)]
    have hsteps : c.steps.flatMap stepEntry = c.steps.flatMap fun st =>
        (match st.gate with | some g => BitVec.ofNat 8 g | none => 0xFF)
          :: bytes16 (match st.minInterval with | some m => m | none => 0) :=
      List.flatMap_congr fun ⟨gate, interval⟩ _ => by cases gate <;> cases interval <;> rfl
    rw [coursePayload, hsteps]
    rfl
  · subst hdef
    have hexec {r : Response} (h0 : word16 hi lo ≠ 0) (ha : s.readRun (word16 hi lo) = (s, r)) :
        exec .readRun s = .next (s.setLink (s.link.answer r)) :=
      congrArg Host.Outcome.next (live_parseRun readRun_ignoresLink rfl hc hn h0 ha)
    refine ⟨fun h0 => congrArg Host.Outcome.next (live_parseRun_zero readRun_ignoresLink rfl hc hn h0),
      fun h0 hmiss => hexec h0 (State.readRun_notFound (State.findRun_none hmiss)), fun i r h0 hr hnr => ?_⟩
    rw [hexec h0 (State.readRun_ok (State.findRun_eq hd hr hnr)), runPayload,
      runEntries_eq r.splits _ r.startTime_eq, ← hnr]
    have hentry (k : Nat) (sp : Split) : splitEntry (splitTime r.splits 0) (splitTime r.splits (k - 1)) sp =
        [BitVec.ofNat 8 sp.step,
          (match sp.origin with
            | .crossing g _ .sensor => 8 + BitVec.ofNat 8 g
            | .crossing g _ .manual => 16 + 8 + BitVec.ofNat 8 g
            | .group => 32) + (if sp.hostAssigned then 64 else 0)]
        ++ bytes32 (match sp.origin with | .crossing _ id _ => id | .group => 0)
        ++ bytes32 sp.time ++ bytes32 (sp.time - splitTime r.splits 0)
        ++ bytes32 (sp.time - splitTime r.splits (k - 1)) := by
      obtain ⟨step, origin, time, host⟩ := sp
      match origin with
      | .crossing g id .sensor => rw [splitEntry, splitDescriptor_sensor] <;> rfl
      | .crossing g id .manual => rw [splitEntry, splitDescriptor_manual] <;> rfl
      | .group => rw [splitEntry, splitDescriptor_group] <;> rfl
    have hreason : r.endReason.elim 0 EndReason.code = (match r.endReason with
        | none => 0 | some .finished => 1 | some .overTime => 2 | some .withdrawn => 3 : Byte) := by
      obtain _ | reason := r.endReason
      · rfl
      · cases reason <;> rfl
    simp only [funext (hentry _), hreason]
    rfl
  · refine (congrArg Host.Outcome.next
      (State.live_serve_acts (listRuns_ignoresLink.beside s) hn rfl hc rfl rfl)).trans ?_
    have hentries : (Config.allSlots.flatMap fun i => (s.run i).elim [] (listEntry i)) =
        (List.finRange 24).flatMap fun i =>
          match s.run i with
          | some r => [BitVec.ofNat 8 i] ++ bytes16 r.number
              ++ [match r.state with
                | .staged => 1 | .onCourse => 2 | .finished => 3 | .notFinished => 4 | .withdrawn => 5,
                BitVec.ofNat 8 r.splits.length]
          | none => [] :=
      List.flatMap_congr fun i _ => by cases s.run i <;> rfl
    rw [listPayload, State.occupancy_eq, hentries]
    rfl

end Sys2Proof.Machine
end

section
/-! PROOFS. SET COURSE (R52 to R54, R56): the steps that its payload carries, its decoding of what GET COURSE writes, the
payloads it refuses, and its two checks. -/

namespace Sys2Proof.Machine

/-! ## The step entries of the payload (R165, R166) -/

theorem word16_bytes16 (w : Word) : word16 (w.extractLsb' 8 8) (w.extractLsb' 0 8) = w := by
  refine BitVec.eq_of_getLsbD_eq fun i hi => ?_
  simp only [word16, BitVec.getLsbD_append, BitVec.getLsbD_extractLsb']
  by_cases h8 : i < 8
  · simp [h8]
  · simp [h8, show i - 8 < 8 by omega, show 8 + (i - 8) = i by omega]

theorem bytes16_word16 (hi lo : Byte) : bytes16 (word16 hi lo) = [hi, lo] := by
  have hhigh : (word16 hi lo).extractLsb' 8 8 = hi := BitVec.eq_of_getLsbD_eq fun i hi => by
    simp only [word16, BitVec.getLsbD_extractLsb', BitVec.getLsbD_append]
    simp [hi]
  have hlow : (word16 hi lo).extractLsb' 0 8 = lo := BitVec.eq_of_getLsbD_eq fun i hi => by
    simp only [word16, BitVec.getLsbD_extractLsb', BitVec.getLsbD_append]
    simp [hi]
  rw [bytes16, hhigh, hlow]

theorem rawSteps_flatMap (steps : List (Byte × Byte × Byte)) :
    rawSteps (steps.flatMap fun e => [e.1, e.2.1, e.2.2]) = steps.map fun e => (e.1, word16 e.2.1 e.2.2) := by
  induction steps with
  | nil => rfl
  | cons e es ih => exact congrArg ((e.1, word16 e.2.1 e.2.2) :: ·) ih

/-- The raw fields of a step entry (R165). -/
def CourseStep.raw (st : CourseStep) : Byte × Word := (gateField st.gate, st.minInterval.getD 0)

theorem rawSteps_entries (steps : List CourseStep) : rawSteps (steps.flatMap stepEntry) = steps.map CourseStep.raw := by
  induction steps with
  | nil => rfl
  | cons st rest ih =>
    have hraw : (gateField st.gate, word16 ((st.minInterval.getD 0).extractLsb' 8 8)
        ((st.minInterval.getD 0).extractLsb' 0 8)) = st.raw := by rw [word16_bytes16] <;> rfl
    exact congrArg₂ List.cons hraw ih

/-! ## The steps that entries parse to (R52) -/

theorem parseFirstStep_gate (g : Gate) : parseFirstStep .gate (CourseStep.raw ⟨some g, none⟩) = some ⟨some g, none⟩ := by
  have hgate : parseGate (gateField (some g)) = some g := parseGate_ofNat g
  simp [parseFirstStep, CourseStep.raw, hgate]

theorem parseFirstStep_group : parseFirstStep .group (CourseStep.raw ⟨none, none⟩) = some ⟨none, none⟩ := rfl

theorem parseLaterStep_raw (g : Gate) (m : Word) : parseLaterStep (CourseStep.raw ⟨some g, some m⟩) = some ⟨some g, some m⟩ := by
  have hgate : parseGate (gateField (some g)) = some g := parseGate_ofNat g
  simp [parseLaterStep, CourseStep.raw, hgate]

theorem mapM_map_some {α β : Type} {f : β → Option α} {g : α → β} {as : List α} (h : ∀ a ∈ as, f (g a) = some a) :
    (as.map g).mapM f = some as := by
  induction as with
  | nil => rfl
  | cons a as ih =>
    have hrest := ih fun a ha => h a (List.mem_cons_of_mem _ ha)
    rw [List.map_cons, List.mapM_cons, h a List.mem_cons_self, hrest]
    rfl

theorem mapM_none {α β : Type} {f : β → Option α} {b : β} {bs : List β} (hb : b ∈ bs) (hf : f b = none) :
    bs.mapM f = none := by
  induction bs with
  | nil => cases hb
  | cons c bs ih =>
    rw [List.mapM_cons]
    rcases List.mem_cons.mp hb with rfl | hb
    · rw [hf]
      rfl
    · rw [ih hb]
      cases f c <;> rfl

/-! ## The payload that SET COURSE parses (R52) -/

section ParseSetCourse

variable {number m n hi lo : Byte} {rest : List Byte} {mode : StartMode} {e : Byte × Word} {es : List (Byte × Word)}

theorem parseSetCourse_some {first : CourseStep} {later : List CourseStep} (hm : parseStartMode m = some mode)
    (hnumber : number ≠ 0) (hlow : 2 ≤ n.toNat) (hhigh : n.toNat ≤ 12) (hrest : rawSteps rest = e :: es)
    (hfirst : parseFirstStep mode e = some first) (hlater : es.mapM parseLaterStep = some later) :
    parseSetCourse (number :: m :: n :: hi :: lo :: rest) = some ⟨number, mode, first :: later, word16 hi lo⟩ := by
  have hok : number ≠ 0 ∧ 2 ≤ n.toNat ∧ n.toNat ≤ 12 := ⟨hnumber, hlow, hhigh⟩
  simp only [parseSetCourse, hm, hrest, if_pos hok, Option.bind_eq_bind, Option.bind_some, hfirst, hlater]

theorem parseSetCourse_badMode (hm : parseStartMode m = none) :
    parseSetCourse (number :: m :: n :: hi :: lo :: rest) = none := by
  simp [parseSetCourse, hm]

theorem parseSetCourse_badNumbers (h : number = 0 ∨ n.toNat < 2 ∨ 12 < n.toNat) :
    parseSetCourse (number :: m :: n :: hi :: lo :: rest) = none := by
  have hbad : ¬ (number ≠ 0 ∧ 2 ≤ n.toNat ∧ n.toNat ≤ 12) := by
    rintro ⟨hne, hlow, hhigh⟩
    rcases h with h | h | h
    · exact hne h
    · exact absurd h (Nat.not_lt.mpr hlow)
    · exact absurd h (Nat.not_lt.mpr hhigh)
  simp only [parseSetCourse, if_neg hbad]
  cases parseStartMode m <;> rfl

theorem parseSetCourse_badFirst (hm : parseStartMode m = some mode) (hrest : rawSteps rest = e :: es)
    (hfirst : parseFirstStep mode e = none) : parseSetCourse (number :: m :: n :: hi :: lo :: rest) = none := by
  simp [parseSetCourse, hm, hrest, hfirst]

theorem parseSetCourse_badLater (hrest : rawSteps rest = e :: es) (hlater : es.mapM parseLaterStep = none) :
    parseSetCourse (number :: m :: n :: hi :: lo :: rest) = none := by
  simp [parseSetCourse, hrest, hlater]

end ParseSetCourse

theorem parseStartMode_code (mode : StartMode) : parseStartMode mode.code = some mode := by
  cases mode <;> rfl

theorem parseStartMode_none {m : Byte} (h : 1 < m.toNat) : parseStartMode m = none := by
  have h0 : m ≠ 0 := fun heq => by simp [heq] at h
  have h1 : m ≠ 1 := fun heq => by simp [heq] at h
  rw [parseStartMode, if_neg h0, if_neg h1]

/-! ## SET COURSE reads back what GET COURSE writes (R56) -/

/-- At step 0 a gate exactly on a GATE course, and no interval (R46). -/
theorem parseFirstStep_raw {mode : StartMode} {st : CourseStep} (hgate : st.gate.isSome = true ↔ mode = .gate)
    (hinterval : st.minInterval = none) : parseFirstStep mode st.raw = some st := by
  obtain ⟨gate, interval⟩ := st
  obtain rfl : interval = none := hinterval
  cases gate with
  | none =>
    cases mode with
    | gate => simp at hgate
    | group => exact parseFirstStep_group
  | some g =>
    cases mode with
    | gate => exact parseFirstStep_gate g
    | group => simp at hgate

theorem parseLaterStep_of_some {st : CourseStep} (hgate : st.gate.isSome = true) (hinterval : st.minInterval.isSome = true) :
    parseLaterStep st.raw = some st := by
  obtain ⟨gate, interval⟩ := st
  obtain ⟨g, rfl⟩ := Option.isSome_iff_exists.mp hgate
  obtain ⟨m, rfl⟩ := Option.isSome_iff_exists.mp hinterval
  exact parseLaterStep_raw g m

/-- Settles O28: step 0 parses to itself by its mode, and each later step by its gate and interval. -/
theorem courseBytesRoundTrip : Obligations.CourseBytesRoundTrip := by
  rintro ⟨number, mode, steps, maxTime⟩ ⟨hlow, hhigh, hgate0, hgates⟩ hnumber hintervals
  obtain _ | ⟨first, later⟩ := steps
  · cases hlow
  have hlength : (byteOf (first :: later).length).toNat = (first :: later).length := by
    rw [byteOf, BitVec.toNat_ofNat]
    exact Nat.mod_eq_of_lt (Nat.lt_of_le_of_lt hhigh (by decide))
  have hfirst : parseFirstStep mode first.raw = some first :=
    parseFirstStep_raw hgate0 (by simpa using hintervals 0 first rfl)
  have hlater : (later.map CourseStep.raw).mapM parseLaterStep = some later := by
    refine mapM_map_some fun st hst => ?_
    obtain ⟨k, hk, hget⟩ := List.getElem_of_mem hst
    have hat : (first :: later)[k + 1]? = some st := by simp [hk, hget]
    have hgate := hgates (k + 1) (Nat.succ_lt_succ hk) k.succ_pos
    exact parseLaterStep_of_some (by simpa [Course.gateOf, hat] using hgate) ((hintervals (k + 1) st hat).mpr k.succ_ne_zero)
  refine (parseSetCourse_some (parseStartMode_code mode) hnumber (hlength.symm ▸ hlow) (hlength.symm ▸ hhigh)
    (rawSteps_entries (first :: later)) hfirst hlater).trans ?_
  rw [word16_bytes16]

/-! ## What SET COURSE refuses (R52 to R54) -/

/-- A step 0 with an interval, without a gate from 0 to 7 on a GATE course, or with one on a GROUP course (R52). -/
theorem parseFirstStep_none {mode : StartMode} {e : Byte × Byte × Byte}
    (h : e.2 ≠ (0, 0) ∨ mode = .gate ∧ 7 < e.1.toNat ∨ mode = .group ∧ e.1 ≠ 0xFF) :
    parseFirstStep mode (e.1, word16 e.2.1 e.2.2) = none := by
  obtain ⟨b, hi, lo⟩ := e
  unfold parseFirstStep
  rcases h with h | ⟨rfl, h⟩ | ⟨rfl, h⟩
  · refine if_neg fun hzero => h ?_
    have hbytes : [hi, lo] = [0, 0] := (bytes16_word16 hi lo).symm.trans (congrArg bytes16 hzero)
    cases hbytes
    rfl
  · simp [parseGate_none h]
  · exact ite_eq_right_iff.mpr fun _ => if_neg h

theorem parseLaterStep_none {e : Byte × Word} (h : 7 < e.1.toNat) : parseLaterStep e = none := by
  simp [parseLaterStep, parseGate_none h]

/-- The payloads that carry no course (R52). -/
theorem parseSetCourse_none {number m n hi lo : Byte} {steps : List (Byte × Byte × Byte)}
    (hbad : number = 0 ∨ 1 < m.toNat ∨ n.toNat < 2 ∨ 12 < n.toNat
      ∨ (∃ e, steps[0]? = some e ∧ (e.2 ≠ (0, 0) ∨ m = 0 ∧ 7 < e.1.toNat ∨ m = 1 ∧ e.1 ≠ 0xFF))
      ∨ ∃ k e, 0 < k ∧ steps[k]? = some e ∧ 7 < e.1.toNat) :
    parseSetCourse ([number, m, n, hi, lo] ++ steps.flatMap fun e => [e.1, e.2.1, e.2.2]) = none := by
  rcases hbad with h | h | h | h | ⟨e, he, h⟩ | ⟨k, e, hk, he, h⟩
  · exact parseSetCourse_badNumbers (.inl h)
  · exact parseSetCourse_badMode (parseStartMode_none h)
  · exact parseSetCourse_badNumbers (.inr (.inl h))
  · exact parseSetCourse_badNumbers (.inr (.inr h))
  · cases hm : parseStartMode m with
    | none => exact parseSetCourse_badMode hm
    | some mode =>
      obtain _ | ⟨e', es⟩ := steps
      · cases he
      obtain rfl : e' = e := Option.some.inj he
      have hmode : m = mode.code := by
        unfold parseStartMode at hm
        split at hm
        · next h0 => cases hm; exact h0
        · split at hm
          · next h1 => cases hm; exact h1
          · cases hm
      refine parseSetCourse_badFirst hm (rawSteps_flatMap (e' :: es)) (parseFirstStep_none ?_)
      rcases h with h | ⟨h0, h⟩ | ⟨h1, h⟩
      · exact .inl h
      · cases mode with
        | gate => exact .inr (.inl ⟨rfl, h⟩)
        | group => exact absurd (hmode.symm.trans h0) (by decide)
      · cases mode with
        | gate => exact absurd (hmode.symm.trans h1) (by decide)
        | group => exact .inr (.inr ⟨rfl, h⟩)
  · obtain _ | ⟨e', es⟩ := steps
    · cases he
    obtain ⟨k, rfl⟩ := Nat.exists_eq_succ_of_ne_zero (Nat.pos_iff_ne_zero.mp hk)
    have hmem : e ∈ es := List.mem_of_getElem? he
    exact parseSetCourse_badLater (rawSteps_flatMap (e' :: es))
      (mapM_none (List.mem_map_of_mem hmem) (parseLaterStep_none h))

section SetCourse

variable {s : State} {c : Course}

theorem State.setCourse_inUse (h : (∃ i r, s.run i = some r ∧ (r.state = .staged ∨ r.state = .onCourse))
    ∨ (∃ i r, s.run i = some r ∧ r.courseNumber = c.number) ∧ s.tracker.course ≠ some c) :
    s.setCourse c = (s, .refuse .courseInUse) := by
  unfold State.setCourse
  by_cases hactive : s.anyRun (fun r => r.state.active) = true
  · rw [if_pos hactive]
  rw [if_neg hactive]
  rcases h with ⟨i, r, hr, hstate⟩ | ⟨⟨i, r, hr, hnumber⟩, hne⟩
  · exact absurd ((s.anyRun_iff _).mpr ⟨i, r, hr, RunState.active_iff.mpr hstate⟩) hactive
  · exact if_pos ⟨(s.anyRun_iff _).mpr ⟨i, r, hr, beq_iff_eq.mpr hnumber⟩, hne⟩

theorem State.setCourse_installs (hended : ∀ i r, s.run i = some r → r.state ≠ .staged ∧ r.state ≠ .onCourse)
    (hfree : (∀ i r, s.run i = some r → r.courseNumber ≠ c.number) ∨ s.tracker.course = some c) :
    s.setCourse c =
      ({ s with tracker := { s.tracker with course := some c, queues := List.replicate c.steps.length [] } }, .ok) := by
  have hactive : ¬ s.anyRun (fun r => r.state.active) = true := fun h => by
    obtain ⟨i, r, hr, ha⟩ := (s.anyRun_iff _).mp h
    exact (RunState.active_iff.mp ha).elim (hended i r hr).1 (hended i r hr).2
  have hclash : ¬ (s.anyRun (fun r => r.courseNumber == c.number) = true ∧ s.tracker.course ≠ some c) := fun ⟨h, hne⟩ => by
    obtain ⟨i, r, hr, hnumber⟩ := (s.anyRun_iff _).mp h
    exact hfree.elim (fun hf => hf i r hr (beq_iff_eq.mp hnumber)) hne
  rw [State.setCourse, if_neg hactive, if_neg hclash]

end SetCourse

/-- The payload of a course has the length that its step count says (R165). -/
theorem payloadFits_setCourse {number m n hi lo : Byte} {rest : List Byte} (h : rest.length = 3 * n.toNat) :
    payloadFits 0x20 (number :: m :: n :: hi :: lo :: rest) = some true := by
  simp [payloadFits, h]
  omega

theorem length_flatMap_of_length {α : Type} {f : α → List Byte} {n : Nat} (hf : ∀ a, (f a).length = n) (as : List α) :
    (as.flatMap f).length = n * as.length := by
  induction as with
  | nil => rfl
  | cons a as ih => rw [List.flatMap_cons, List.length_append, ih, hf, List.length_cons, Nat.mul_succ, Nat.add_comm]

/-- Settles O29: the two checks of a course that parses, and the payloads that carry none. -/
theorem setCourseInstallsOrRefuses : Obligations.SetCourseInstallsOrRefuses := by
  refine ⟨fun s tag c hc hn hlaw hnumber hintervals => ?_, fun s tag number m n hi lo steps hc hlength hn hbad => ?_⟩
  · have hhigh := hlaw.2.1
    have hfits : payloadFits 0x20 (coursePayload c) = some true := by
      refine payloadFits_setCourse ((length_flatMap_of_length (f := stepEntry) (n := 3) (fun _ => rfl) c.steps).trans ?_)
      rw [byteOf, BitVec.toNat_ofNat, Nat.mod_eq_of_lt (Nat.lt_of_le_of_lt hhigh (by decide))]
    have hexec {t : State} {r : Response} (ha : s.setCourse c = (t, r)) :
        exec .setCourse s = .next (t.setLink (s.link.answer r)) :=
      congrArg Host.Outcome.next (State.live_serve_acts (setCourse_ignoresLink.beside s) hn hfits hc
        (courseBytesRoundTrip c hlaw hnumber hintervals) ha)
    exact ⟨fun h => hexec (State.setCourse_inUse h), fun hended hfree => hexec (State.setCourse_installs hended hfree)⟩
  · refine congrArg Host.Outcome.next (State.live_serve_badValue (setCourse_ignoresLink.beside s) hn
      (payloadFits_setCourse ((length_flatMap_of_length
        (f := fun e : Byte × Byte × Byte => [e.1, e.2.1, e.2.2]) (n := 3) (fun _ => rfl) steps).trans ?_)) hc (parseSetCourse_none hbad))
    rw [hlength]

end Sys2Proof.Machine
end

section
/-! PROOFS. ASSIGN CROSSING and VOID SPLIT (R112 to R119): their checks in order, the queues that a run's move leaves, and the
steps of the requests that pass. -/

namespace Sys2Proof.Machine

/-! ## The queues that a run's move leaves (R83) -/

theorem modify_eq_of_getD {qs qs' : List (List Slot)} {k : Nat} {f : List Slot → List Slot} (hlen : qs'.length = qs.length)
    (h : ∀ k', k' < qs'.length → qs'.getD k' [] = if k' = k then f (qs.getD k' []) else qs.getD k' []) :
    qs.modify k f = qs' := by
  refine List.ext_getElem (by simp [hlen]) fun k' hk hk' => ?_
  have hold : k' < qs.length := hlen ▸ hk'
  have hat := h k' hk'
  rw [List.getD_eq_getElem _ _ hk', List.getD_eq_getElem _ _ hold] at hat
  rw [List.getElem_modify, hat]
  simp only [eq_comm]

/-- The queue of a step after the run has left the queue in which it stood (R83). -/
theorem State.queue_dequeue (s : State) (i : Slot) (k : Nat) :
    (s.tracker.queues.map fun q => q.filter (· ≠ i)).getD k [] = (s.queue k).filter (· ≠ i) := by
  simp only [State.queue, List.getD_eq_getElem?_getD, List.getElem?_map]
  cases s.tracker.queues[k]? <;> rfl

theorem State.queues_dequeue_eq {s : State} {i : Slot} {qs : List (List Slot)} (hlen : qs.length = s.tracker.queues.length)
    (h : ∀ k, k < qs.length → qs.getD k [] = (s.queue k).filter (· ≠ i)) :
    (s.tracker.queues.map fun q => q.filter (· ≠ i)) = qs :=
  List.ext_getElem (by simp [hlen]) fun k hk hk' => by
    rw [← List.getD_eq_getElem _ [] hk, ← List.getD_eq_getElem _ [] hk', s.queue_dequeue, h k hk']

theorem State.queues_toTail_eq {s : State} {i : Slot} {k : Nat} {qs : List (List Slot)}
    (hlen : qs.length = s.tracker.queues.length)
    (h : ∀ k', k' < qs.length → qs.getD k' [] = (s.queue k').filter (· ≠ i) ++ if k' = k then [i] else []) :
    (s.tracker.queues.map fun q => q.filter (· ≠ i)).modify k (· ++ [i]) = qs :=
  modify_eq_of_getD (by simp [hlen]) fun k' hk' => by
    rw [h k' hk', s.queue_dequeue]
    split <;> simp

theorem State.queues_toHead_eq {s : State} {i : Slot} {k : Nat} {qs : List (List Slot)}
    (hlen : qs.length = s.tracker.queues.length)
    (h : ∀ k', k' < qs.length → qs.getD k' [] = (if k' = k then [i] else []) ++ (s.queue k').filter (· ≠ i)) :
    (s.tracker.queues.map fun q => q.filter (· ≠ i)).modify k (i :: ·) = qs :=
  modify_eq_of_getD (by simp [hlen]) fun k' hk' => by
    rw [h k' hk', s.queue_dequeue]
    split <;> simp

/-! ## The checks of ASSIGN CROSSING (R112) -/

theorem parseAssignCrossing_zero {i3 i2 i1 i0 hi lo : Byte} (h : word16 hi lo = 0) :
    parseAssignCrossing [i3, i2, i1, i0, hi, lo] = none := by
  simp [parseAssignCrossing, parseRunNumber_zero h]

theorem parseAssignCrossing_some {i3 i2 i1 i0 hi lo : Byte} (h : word16 hi lo ≠ 0) :
    parseAssignCrossing [i3, i2, i1, i0, hi, lo] = some (word32 i3 i2 i1 i0, word16 hi lo) := by
  simp [parseAssignCrossing, parseRunNumber_some h]

/-- The step of an ASSIGN CROSSING with a run number is its act, and the reply. -/
theorem exec_assignCrossing {s t : State} {tag i3 i2 i1 i0 hi lo : Byte} {r : Response}
    (hc : s.session.state ≠ .closed) (hn : s.NextIs 0x33 tag [i3, i2, i1, i0, hi, lo]) (h0 : word16 hi lo ≠ 0)
    (ha : s.assignCrossing (word32 i3 i2 i1 i0, word16 hi lo) = (t, r)) :
    exec .assignCrossing s = .next (t.setLink (s.link.answer r)) :=
  congrArg Host.Outcome.next
    (State.live_serve_acts (assignCrossing_ignoresLink.beside s) hn rfl hc (parseAssignCrossing_some h0) ha)

section AssignRefusal

variable {s : State} {r : Run} {c : Crossing} {course : Course}

theorem State.assignRefusal_wrongState (hr : r.state ≠ .onCourse)
    (hstaged : r.state = .staged → ∀ course, s.tracker.course = some course → course.mode = .group) :
    s.assignRefusal r c = some .wrongState := by
  refine if_pos ⟨hr, fun ⟨hs, hmode⟩ => ?_⟩
  rw [State.startMode, Option.map_eq_some_iff] at hmode
  obtain ⟨course, hcourse, hgate⟩ := hmode
  exact absurd (hgate.symm.trans (hstaged hs course hcourse)) (by decide)

/-- Check 3 is passed (R112). -/
theorem State.assignable (hcourse : s.tracker.course = some course)
    (hr : r.state = .onCourse ∨ r.state = .staged ∧ course.mode = .gate) :
    ¬ (r.state ≠ .onCourse ∧ ¬ (r.state = .staged ∧ s.startMode = some .gate)) := by
  rintro ⟨hne, hnot⟩
  rcases hr with hr | ⟨hs, hmode⟩
  · exact hne hr
  · exact hnot ⟨hs, by rw [State.startMode, hcourse, Option.map_some, hmode]⟩

theorem State.assignRefusal_badValue (hcourse : s.tracker.course = some course)
    (hr : r.state = .onCourse ∨ r.state = .staged ∧ course.mode = .gate)
    (hgate : course.gateOf r.splits.length ≠ some c.gate) : s.assignRefusal r c = some .badValue := by
  rw [State.assignRefusal, if_neg (State.assignable hcourse hr), hcourse]
  exact if_pos hgate

/-- The checks 5 and 6, the gate being that of the awaited step (R112). -/
theorem State.assignRefusal_times (hcourse : s.tracker.course = some course)
    (hr : r.state = .onCourse ∨ r.state = .staged ∧ course.mode = .gate)
    (hgate : course.gateOf r.splits.length = some c.gate) : s.assignRefusal r c =
      if r.state = .onCourse ∧ c.time < r.lastTime.getD 0 then some .outOfOrder
      else if r.state = .onCourse ∧ r.deadline.any (fun d => d < c.time) = true then some .deadlinePassed
      else none := by
  rw [State.assignRefusal, if_neg (State.assignable hcourse hr), hcourse]
  exact if_neg (not_not.mpr hgate)

theorem State.assignRefusal_outOfOrder (hcourse : s.tracker.course = some course) (hr : r.state = .onCourse)
    (hgate : course.gateOf r.splits.length = some c.gate) {last : Tick} (hlast : r.lastTime = some last)
    (htime : c.time < last) : s.assignRefusal r c = some .outOfOrder := by
  rw [State.assignRefusal_times hcourse (.inl hr) hgate, hlast]
  exact if_pos ⟨hr, htime⟩

theorem State.assignRefusal_deadlinePassed (hcourse : s.tracker.course = some course) (hr : r.state = .onCourse)
    (hgate : course.gateOf r.splits.length = some c.gate) {last d : Tick} (hlast : r.lastTime = some last)
    (htime : last ≤ c.time) (hd : r.deadline = some d) (hlate : d < c.time) :
    s.assignRefusal r c = some .deadlinePassed := by
  rw [State.assignRefusal_times hcourse (.inl hr) hgate, hlast, if_neg fun h => BitVec.not_lt.mpr htime h.2, hd]
  exact if_pos ⟨hr, decide_eq_true hlate⟩

theorem State.assignRefusal_staged (hcourse : s.tracker.course = some course) (hr : r.state = .staged)
    (hmode : course.mode = .gate) (hgate : course.gateOf r.splits.length = some c.gate) : s.assignRefusal r c = none := by
  rw [State.assignRefusal_times hcourse (.inr ⟨hr, hmode⟩) hgate]
  simp [hr]

theorem State.assignRefusal_onCourse (hcourse : s.tracker.course = some course) (hr : r.state = .onCourse)
    (hgate : course.gateOf r.splits.length = some c.gate) {last : Tick} (hlast : r.lastTime = some last)
    (htime : last ≤ c.time) (hd : ∀ d, r.deadline = some d → c.time ≤ d) : s.assignRefusal r c = none := by
  rw [State.assignRefusal_times hcourse (.inl hr) hgate, hlast, if_neg fun h => BitVec.not_lt.mpr htime h.2]
  refine if_neg fun hlate => ?_
  replace hlate := hlate.2
  obtain ⟨d, hdeadline, hlt⟩ := Option.any_eq_true _ _ |>.mp hlate
  exact BitVec.not_lt.mpr (hd d hdeadline) (of_decide_eq_true hlt)

end AssignRefusal

section AssignCrossing

variable {s : State} {id : Tick} {n : Word} {e : UnassignedEntry} {i : Slot} {r : Run}

theorem State.assignCrossing_noEntry (h : s.entryWithId id = none) : s.assignCrossing (id, n) = (s, .refuse .notFound) := by
  simp only [State.assignCrossing, h]

theorem State.assignCrossing_noRun (h : s.findRun n = none) : s.assignCrossing (id, n) = (s, .refuse .notFound) := by
  simp only [State.assignCrossing, h]
  split <;> rfl

theorem State.assignCrossing_refused (he : s.entryWithId id = some e) (hr : s.findRun n = some (i, r)) {st : Status}
    (h : s.assignRefusal r e.crossing = some st) : s.assignCrossing (id, n) = (s, .refuse st) := by
  simp only [State.assignCrossing, he, hr, h]

theorem State.assignCrossing_ok (he : s.entryWithId id = some e) (hr : s.findRun n = some (i, r))
    (h : s.assignRefusal r e.crossing = none) : s.assignCrossing (id, n) =
      (if r.state = .staged then (((s.removeEntry id).advance i e.crossing true).markCorrected i).examineDeadlines
        else ((s.removeEntry id).advance i e.crossing true).markCorrected i, .ok [byteOf r.splits.length]) := by
  simp only [State.assignCrossing, he, hr, h]
  rfl

end AssignCrossing

/-! ## The checks of VOID SPLIT (R116) -/

section VoidRefusal

variable {s : State} {n : Word} {i : Slot} {r : Run}

theorem State.voidRefusal_wrongState (h : r.state = .staged ∨ r.state = .notFinished ∨ r.state = .withdrawn
    ∨ r.state = .finished ∧ (∀ course, s.tracker.course = some course → course.number ≠ r.courseNumber)) :
    s.voidRefusal r = some .wrongState := by
  rcases h with h | h | h | ⟨h, hcourse⟩
  · simp only [State.voidRefusal, h]
  · simp only [State.voidRefusal, h]
  · simp only [State.voidRefusal, h]
  · simp only [State.voidRefusal, h]
    refine if_pos fun hnumber => ?_
    obtain ⟨course, hsome, hnumber⟩ := Option.map_eq_some_iff.mp hnumber
    exact hcourse course hsome hnumber

/-- The last check, of a FINISHED run of the current course (R116). -/
theorem State.voidRefusal_finished (h : r.state = .finished) {course : Course} (hcourse : s.tracker.course = some course)
    (hnumber : course.number = r.courseNumber) : s.voidRefusal r =
      if r.deadline.any (fun d => d ≤ s.clock.count) = true then some .deadlinePassed else none := by
  simp only [State.voidRefusal, h]
  exact if_neg (not_not.mpr (by rw [hcourse, Option.map_some, hnumber]))

theorem State.voidRefusal_none (h : r.state = .onCourse ∨ r.state = .finished
    ∧ (∃ course, s.tracker.course = some course ∧ course.number = r.courseNumber)
    ∧ ∀ d, r.deadline = some d → s.clock.count < d) : s.voidRefusal r = none := by
  obtain h | ⟨h, ⟨course, hcourse, hnumber⟩, hd⟩ := h
  · simp only [State.voidRefusal, h]
  · rw [State.voidRefusal_finished h hcourse hnumber]
    refine if_neg fun hdue => ?_
    obtain ⟨d, hdeadline, hle⟩ := Option.any_eq_true _ _ |>.mp hdue
    exact BitVec.not_le.mpr (hd d hdeadline) (of_decide_eq_true hle)

theorem State.voidSplit_notFound (h : s.findRun n = none) : s.voidSplit n = (s, .refuse .notFound) := by
  simp only [State.voidSplit, h]

theorem State.voidSplit_refused (hr : s.findRun n = some (i, r)) {st : Status} (h : s.voidRefusal r = some st) :
    s.voidSplit n = (s, .refuse st) := by
  simp only [State.voidSplit, hr, h]

theorem State.voidSplit_ok (hr : s.findRun n = some (i, r)) (h : s.voidRefusal r = none) {front : List Split} {sp : Split}
    (hsplits : r.splits = front ++ [sp]) :
    s.voidSplit n = (s.voidLast i r front.length sp, .ok [byteOf front.length]) := by
  have hlast : r.splits.getLast? = some sp := by simp [hsplits]
  have hlength : r.splits.length - 1 = front.length := by simp [hsplits]
  simp only [State.voidSplit, hr, h, hlast, hlength]

end VoidRefusal

/-- Settles O34: each refusal is the first check that fails, and a refusal changes nothing. -/
theorem correctionsRefuse : Obligations.CorrectionsRefuse := by
  refine ⟨?_, ?_⟩
  · rintro s tag i3 i2 i1 i0 hi lo _ _ hc hn rfl rfl hd
    refine ⟨fun h0 => congrArg Host.Outcome.next (State.live_serve_badValue (assignCrossing_ignoresLink.beside s) hn rfl
      hc (parseAssignCrossing_zero h0)), fun h0 hmiss => ?_, fun older c why newer i r h0 hes hid hold hr hnr => ?_⟩
    · exact hmiss.elim (fun h => exec_assignCrossing hc hn h0 (State.assignCrossing_noEntry (State.entryWithId_none h)))
        (fun h => exec_assignCrossing hc hn h0 (State.assignCrossing_noRun (State.findRun_none h)))
    have hrefused {st : Status} (h : s.assignRefusal r c = some st) :
        exec .assignCrossing s = .next (s.setLink (s.link.answer (.refuse st))) :=
      exec_assignCrossing hc hn h0
        (State.assignCrossing_refused (State.entryWithId_oldest hes hid hold) (State.findRun_eq hd hr hnr) h)
    refine ⟨fun hne hgroup _ => hrefused (State.assignRefusal_wrongState hne hgroup), fun course hcourse hstate =>
      ⟨fun hgate => hrefused (State.assignRefusal_badValue hcourse hstate hgate), fun hgate hon last hlast =>
        ⟨fun hlt => hrefused (State.assignRefusal_outOfOrder hcourse hon hgate hlast hlt),
          fun d hle hdeadline hlate =>
            hrefused (State.assignRefusal_deadlinePassed hcourse hon hgate hlast hle hdeadline hlate)⟩⟩⟩
  · rintro s tag hi lo _ hc hn rfl hd
    have hexec {r : Response} (h0 : word16 hi lo ≠ 0) (ha : s.voidSplit (word16 hi lo) = (s, r)) :
        exec .voidSplit s = .next (s.setLink (s.link.answer r)) :=
      congrArg Host.Outcome.next (live_parseRun voidSplit_ignoresLink rfl hc hn h0 ha)
    refine ⟨fun h0 => congrArg Host.Outcome.next (live_parseRun_zero voidSplit_ignoresLink rfl hc hn h0),
      fun h0 hmiss => hexec h0 (State.voidSplit_notFound (State.findRun_none hmiss)), fun i r h0 hr hnr => ⟨?_, ?_⟩⟩
    · exact fun h => hexec h0 (State.voidSplit_refused (State.findRun_eq hd hr hnr) (State.voidRefusal_wrongState h))
    · intro course d hfinished hcourse hnumber hdeadline hle
      refine hexec h0 (State.voidSplit_refused (State.findRun_eq hd hr hnr) ?_)
      rw [State.voidRefusal_finished hfinished hcourse hnumber, hdeadline]
      exact if_pos (decide_eq_true hle)

/-! ## The effect of ASSIGN CROSSING (R69 to R71, R113, R114) -/

/-- The mark on a record just written is a write of the marked record (R65). -/
theorem State.markCorrected_of_set {s : State} {i : Slot} {r : Run} {runs : Vector (Option Run) 24}
    (h : s.tracker.runs = runs.set i (some r)) : s.markCorrected i =
      { s with tracker := { s.tracker with runs := runs.set i (some { r with corrected := true }) } } := by
  have hr : s.run i = some r := by simp [State.run, h]
  rw [State.markCorrected_eq hr, State.setRun, h]
  simp

/-- The start of a STAGED run by the host, marked corrected (R69, R113). -/
theorem State.assign_starts {w : State} {i : Slot} {r : Run} (hr : w.run i = some r) (hstate : r.state = .staged)
    (c : Crossing) : (w.advance i c true).markCorrected i = { w with
      tracker := { w.tracker with
        runs := w.tracker.runs.set i (some { r with
          state := .onCourse
          splits := [⟨0, .crossing c.gate c.id c.source, c.time, true⟩]
          deadline := w.tracker.course.bind (·.deadlineFrom c.time)
          corrected := true })
        queues := (w.tracker.queues.map fun q => q.filter (· ≠ i)).modify 1 (· ++ [i]) }
      session := w.session.store w.clock.count
        (.runStarted r.number i c.time (SplitOrigin.crossing c.gate c.id c.source).source) } := by
  have hadvance : w.advance i c true = w.startRun i (.crossing c.gate c.id c.source) c.time true := by
    simp only [State.advance, hr]
    exact if_pos hstate
  rw [hadvance, State.startRun_some hr]
  exact State.markCorrected_of_set (runs := w.tracker.runs) (r := { r with
    state := .onCourse
    splits := [⟨0, .crossing c.gate c.id c.source, c.time, true⟩]
    deadline := w.tracker.course.bind (·.deadlineFrom c.time) }) rfl

theorem State.advance_onCourse {w : State} {i : Slot} {r : Run} (hr : w.run i = some r) (hstate : r.state = .onCourse)
    (c : Crossing) (host : Bool) : w.advance i c host = w.addSplit i c host := by
  simp [State.advance, hr, hstate]

/-- The split that the host assigns before the last step (R70, R113). -/
theorem State.assign_splits {w : State} {i : Slot} {r : Run} (hr : w.run i = some r) (hstate : r.state = .onCourse)
    (hk : r.splits.length + 1 < r.stepCount) (c : Crossing) : (w.advance i c true).markCorrected i = { w with
      tracker := { w.tracker with
        runs := w.tracker.runs.set i (some { r.withSplit c true with corrected := true })
        queues := (w.tracker.queues.map fun q => q.filter (· ≠ i)).modify (r.splits.length + 1) (· ++ [i]) }
      session := w.session.store w.clock.count (r.splitReport c true) } := by
  rw [State.advance_onCourse hr hstate, State.addSplit_next hr hk]
  exact State.markCorrected_of_set rfl

/-- The split that the host assigns at the last step (R71, R113). -/
theorem State.assign_finishes {w : State} {i : Slot} {r : Run} (hr : w.run i = some r) (hstate : r.state = .onCourse)
    (hk : r.stepCount ≤ r.splits.length + 1) (c : Crossing) : (w.advance i c true).markCorrected i = { w with
      tracker := { w.tracker with
        runs := w.tracker.runs.set i (some { r.withSplit c true with
          state := .finished, endReason := some .finished, corrected := true })
        queues := w.tracker.queues.map fun q => q.filter (· ≠ i) }
      session := (w.session.store w.clock.count (r.splitReport c true)).store w.clock.count
        (.runEnded r.number .finished (some (r.elapsedTo c.time))) } := by
  rw [State.advance_onCourse hr hstate, State.addSplit_last hr hk]
  exact State.markCorrected_of_set (runs := w.tracker.runs)
    (r := { r.withSplit c true with state := .finished, endReason := some .finished }) rfl

theorem Run.splitReport_eq {r : Run} {start last : Tick} (hstart : r.startTime = some start) (hlast : r.lastTime = some last)
    (c : Crossing) (host : Bool) : r.splitReport c host =
      .split r.number r.splits.length c.gate c.id c.time (c.time - start) (c.time - last) host := by
  simp [Run.splitReport, Run.elapsedTo, hstart, hlast]

/-- Settles O35: the request passes its checks, and the move of the run found leaves the state described. -/
theorem assignCrossingAdvances : Obligations.AssignCrossingAdvances := by
  rintro s u tag i3 i2 i1 i0 hi lo _ older newer c why i r r' course _ qs _ ss hc hn hid rfl h0 hd hes hold hr hnr hcourse
    rfl hgate hlen hqs rfl rfl
  have hentry := State.entryWithId_oldest hes hid fun e he => hid ▸ hold e he
  have hremove := State.removeEntry_oldest hes hid fun e he => hid ▸ hold e he
  have hfind := State.findRun_eq hd hr hnr
  have hrun : (s.setUnassigned (older ++ newer)).run i = some r := hr
  refine ⟨?_, fun start last hstate hstart hlast htime hdeadline => ⟨?_, ?_⟩⟩
  · rintro hstate hmode hk hsteps rfl hss
    have hact := State.assignCrossing_ok hentry hfind (State.assignRefusal_staged hcourse hstate hmode hgate)
    have hqueues := State.queues_toTail_eq (i := i) (k := 1) hlen fun k' hk' => by
      rw [hqs k' hk', hk]
      simp [hsteps]
    have hsession : ss = s.session.store s.clock.count
        (.runStarted r.number i c.time (SplitOrigin.crossing c.gate c.id c.source).source) := by
      rw [hss, hnr]
      cases c.source <;> rfl
    have hdeadline : (s.setUnassigned (older ++ newer)).tracker.course.bind (·.deadlineFrom c.time) =
        course.deadlineFrom c.time := by rw [State.setUnassigned_tracker, hcourse] <;> rfl
    rw [hremove, if_pos hstate, State.assign_starts hrun hstate c, hdeadline] at hact
    rw [← hqueues, hsession]
    exact exec_assignCrossing hc hn h0 hact
  · rintro hnext rfl rfl
    have hact := State.assignCrossing_ok hentry hfind
      (State.assignRefusal_onCourse hcourse hstate hgate hlast htime hdeadline)
    have hqueues := State.queues_toTail_eq (i := i) (k := r.splits.length + 1) hlen fun k' hk' => by
      rw [hqs k' hk']
      simp [hnext]
    have hnot : ¬ r.state = .staged := by rw [hstate]; decide
    rw [hremove, if_neg hnot, State.assign_splits hrun hstate hnext, Run.splitReport_eq hstart hlast] at hact
    rw [← hqueues, ← hnr]
    exact exec_assignCrossing hc hn h0 hact
  · rintro hfinal rfl rfl
    have hact := State.assignCrossing_ok hentry hfind
      (State.assignRefusal_onCourse hcourse hstate hgate hlast htime hdeadline)
    have hqueues := State.queues_dequeue_eq (i := i) hlen fun k' hk' => by
      rw [hqs k' hk']
      simp [Nat.not_lt.mpr hfinal]
    have helapsed : r.elapsedTo c.time = c.time - start := by simp [Run.elapsedTo, hstart]
    have hnot : ¬ r.state = .staged := by rw [hstate]; decide
    rw [hremove, if_neg hnot, State.assign_finishes hrun hstate hfinal, Run.splitReport_eq hstart hlast, helapsed] at hact
    rw [← hqueues, ← hnr]
    exact exec_assignCrossing hc hn h0 hact

/-! ## The effect of VOID SPLIT (R117 to R119) -/

/-- The run back at the head of the queue of the step whose split it lost (R117). -/
theorem State.reopened_eq (s : State) (i : Slot) (r : Run) (j : Nat) :
    ((s.dequeue i).joinHead j i).setRun i (some (r.voided j)) = { s with
      tracker := { s.tracker with
        runs := s.tracker.runs.set i (some (r.voided j))
        queues := (s.tracker.queues.map fun q => q.filter (· ≠ i)).modify j (i :: ·) } } := rfl

/-- Settles O36: the request passes its checks, and the void leaves the state described, by what the split was made from
and by the room on the Unassigned List. -/
theorem voidSplitRemoves : Obligations.VoidSplitRemoves := by
  rintro s u v tag hi lo _ i r front sp _ qs hc hn rfl h0 hd hr hnr hsplits rfl hstate hlen hqs hu hv
  have hact := State.voidSplit_ok (State.findRun_eq hd hr hnr) (State.voidRefusal_none hstate) hsplits
  have hopen : ((s.dequeue i).joinHead front.length i).setRun i (some (r.voided front.length)) = u := by
    have hvoided : r.voided front.length = { r with
        splits := front
        state := if front.length = 0 then .staged else .onCourse
        deadline := if front.length = 0 then none else r.deadline
        endReason := none
        corrected := true } := by simp [Run.voided, hsplits]
    rw [State.reopened_eq, State.queues_toHead_eq hlen hqs, hvoided, hu]
  have hlast : s.voidLast i r front.length sp = v := by
    rw [State.voidLast, hopen]
    obtain ⟨step, origin, time, host⟩ := sp
    cases origin with
    | group => exact hv.symm
    | crossing g id src =>
      have hlist : u.tracker.unassigned = s.tracker.unassigned := by rw [hu]
      have hsession : u.session = s.session ∧ u.clock = s.clock := by rw [hu]; exact ⟨rfl, rfl⟩
      obtain ⟨hsession, hclock⟩ := hsession
      show u.fileCrossing ⟨id, g, time, src⟩ .voided = v
      dsimp only at hv
      cases hes : s.tracker.unassigned with
      | nil =>
        rw [hes] at hv hlist
        rw [hv, State.fileCrossing_room _ _ (by simp [hlist]), hlist, hsession, hclock]
        rfl
      | cons oldest kept =>
        rw [hes] at hv hlist
        dsimp only at hv
        split at hv
        · next hroom =>
          rw [hv, State.fileCrossing_room _ _ (by rw [hlist]; exact Nat.succ_lt_succ hroom), hlist, hsession, hclock]
        · next hfull =>
          rw [hv, State.fileCrossing_full _ _ hlist (by rw [hlist]; exact Nat.succ_le_succ (Nat.not_lt.mp hfull)),
            hsession, hclock]
  rw [hlast] at hact
  exact congrArg Host.Outcome.next (live_parseRun voidSplit_ignoresLink rfl hc hn h0 hact)

end Sys2Proof.Machine
end

section
/-! PROOFS. Generic checks 1 to 3 (R136, R137, R165): what the payload length check says of a request in the terms of the
table of R165, and the step of each request with the owner's act that serves it. -/

namespace Sys2Proof.Machine

/-! ## The length check and the table of R165 -/

theorem payloadFits_table {code : Byte} {n : Nat} (h : (code, n) ∈ requestTable) (p : List Byte) :
    payloadFits code p = some (p.length == n) := by
  have htable : ∀ e ∈ requestTable, payloadFits e.1 p = some (p.length == e.2) := by
    intro e he
    fin_cases he <;> rfl
  exact htable (code, n) h

theorem payloadFits_course (p : List Byte) :
    payloadFits 0x20 p = some (decide (5 ≤ p.length) && p.length == 5 + 3 * (p.getD 2 0).toNat) := rfl

/-- Whether a code is known does not depend on the payload (R136). -/
theorem payloadFits_isSome (code : Byte) (p q : List Byte) : (payloadFits code p).isSome = (payloadFits code q).isSome := by
  unfold payloadFits
  split <;> rfl

/-- The codes that the table does not hold, by evaluation over all codes. -/
theorem payloadFits_nil_none : ∀ code : Byte, code ≠ 0x20 → requestTable.lookup code = none →
    payloadFits code [] = none := by decide

theorem RequestEntry.fits_none {r : RequestEntry} : payloadFits r.code r.payload = none ↔ ¬ r.Known := by
  refine ⟨?_, fun h => ?_⟩
  · rintro h (hcourse | ⟨n, hn⟩)
    · rw [hcourse, payloadFits_course] at h
      cases h
    · rw [payloadFits_table hn] at h
      cases h
  · rw [not_or, not_exists] at h
    obtain ⟨hcourse, htable⟩ := h
    have hlookup : requestTable.lookup r.code = none := List.lookup_eq_none_iff.mpr fun e he =>
      bne_iff_ne.mpr fun heq => htable e.2 (heq ▸ he)
    rw [← Option.isNone_iff_eq_none, ← Option.not_isSome, payloadFits_isSome r.code r.payload [],
      payloadFits_nil_none r.code hcourse hlookup]
    rfl

theorem RequestEntry.fits_true {r : RequestEntry} : payloadFits r.code r.payload = some true ↔ r.LengthRight := by
  have hnot : ∀ n, ((0x20 : Byte), n) ∉ requestTable := fun n h => by
    simp [requestTable] at h
  refine ⟨fun h => ?_, ?_⟩
  · have hknown : r.Known := by
      by_contra hunknown
      rw [RequestEntry.fits_none.mpr hunknown] at h
      cases h
    rcases hknown with hcourse | ⟨n, hn⟩
    · rw [hcourse, payloadFits_course, Option.some.injEq, Bool.and_eq_true, decide_eq_true_iff, beq_iff_eq] at h
      obtain ⟨hlong, hlength⟩ := h
      refine .inr ⟨hcourse, r.payload.getD 2 0, ?_, hlength⟩
      have h2 : 2 < r.payload.length := by omega
      rw [List.getElem?_eq_getElem h2, List.getD_eq_getElem _ _ h2]
    · rw [payloadFits_table hn, Option.some.injEq, beq_iff_eq] at h
      exact .inl (h ▸ hn)
  · rintro (hn | ⟨hcourse, n, h2, hlength⟩)
    · rw [payloadFits_table hn, beq_self_eq_true]
    · have hget : r.payload.getD 2 0 = n := by rw [List.getD_eq_getElem?_getD, h2, Option.getD_some]
      rw [hcourse, payloadFits_course, hget, hlength, beq_self_eq_true, Bool.and_true]
      exact congrArg some (decide_eq_true (Nat.le_add_right 5 _))

theorem RequestEntry.fits_false {r : RequestEntry} (hknown : r.Known) (hwrong : ¬ r.LengthRight) :
    payloadFits r.code r.payload = some false := by
  cases h : payloadFits r.code r.payload with
  | none => exact absurd hknown (RequestEntry.fits_none.mp h)
  | some fits =>
    cases fits with
    | false => rfl
    | true => exact absurd (RequestEntry.fits_true.mp h) hwrong

theorem passesClosed_iff {code : Byte} : passesClosed code = true ↔ code ∈ [(0x01 : Byte), 0x03, 0x04, 0x05] := by
  simp [passesClosed, or_assoc]

/-! ## The first generic check that fails (R136) -/

section GenericRefusal

variable {session : SessionState} {r : RequestEntry}

theorem genericRefusal_unknown (h : ¬ r.Known) : genericRefusal session r = some .unknownRequest := by
  rw [genericRefusal, RequestEntry.fits_none.mpr h]

theorem genericRefusal_badLength (hknown : r.Known) (h : ¬ r.LengthRight) :
    genericRefusal session r = some .badLength := by
  rw [genericRefusal, RequestEntry.fits_false hknown h]

theorem genericRefusal_notOpen (hright : r.LengthRight) (hclosed : session = .closed)
    (h : r.code ∉ [(0x01 : Byte), 0x03, 0x04, 0x05]) : genericRefusal session r = some .notOpen := by
  rw [genericRefusal, RequestEntry.fits_true.mpr hright]
  exact if_pos ⟨hclosed, Bool.eq_false_iff.mpr fun hp => h (passesClosed_iff.mp hp)⟩

theorem genericRefusal_none (hright : r.LengthRight) (h : session = .closed → r.code ∈ [(0x01 : Byte), 0x03, 0x04, 0x05]) :
    genericRefusal session r = none := by
  rw [genericRefusal, RequestEntry.fits_true.mpr hright]
  refine if_neg fun ⟨hclosed, hp⟩ => ?_
  rw [passesClosed_iff.mpr (h hclosed)] at hp
  cases hp

/-- A request passes generic checks 1 to 3 (R136). -/
theorem genericRefusal_eq_none : genericRefusal session r = none ↔
    r.Known ∧ r.LengthRight ∧ (session = .closed → r.code ∈ [(0x01 : Byte), 0x03, 0x04, 0x05]) := by
  refine ⟨fun h => ?_, fun ⟨_, hright, hclosed⟩ => genericRefusal_none hright hclosed⟩
  by_contra hnot
  by_cases hknown : r.Known
  · by_cases hright : r.LengthRight
    · have hclosed : ¬ (session = .closed → r.code ∈ [(0x01 : Byte), 0x03, 0x04, 0x05]) :=
        fun hc => hnot ⟨hknown, hright, hc⟩
      obtain ⟨hclosed, hp⟩ := Classical.not_imp.mp hclosed
      rw [genericRefusal_notOpen hright hclosed hp] at h
      cases h
    · rw [genericRefusal_badLength hknown hright] at h
      cases h
  · rw [genericRefusal_unknown hknown] at h
    cases h

end GenericRefusal

/-! ## The step of each request -/

/-- The step of the request `r` serves it with this parse and this act of its owner, which leaves the link alone. -/
structure RequestEntry.ServedBy (r : RequestEntry) {α : Type} (mine : RequestEntry → Bool) (parse : List Byte → Option α)
    (act : State → α → State × Response) : Prop where
  exec_eq : ∀ s, exec r.step s = .next (s.live (·.serve mine parse act))
  takes : mine r = true
  takes_waiting : mine { r with state := .waiting } = true
  beside : ∀ s, ActsBeside act s
  effect : EffectIgnoresLink act
  session : r.code ≠ 0x01 → r.code ≠ 0x02 → r.code ≠ 0x30 → IgnoresSession act

/-- The step of the request serves it with the act of some owner. -/
def RequestEntry.Served (r : RequestEntry) : Prop :=
  ∃ (α : Type) (mine : RequestEntry → Bool) (parse : List Byte → Option α) (act : State → α → State × Response),
    r.ServedBy mine parse act

section Served

variable {r : RequestEntry} {code : Byte} {c : Instr} {α : Type} {mine : RequestEntry → Bool}
  {parse : List Byte → Option α} {act : State → α → State × Response}

/-- A request whose step is `c`. -/
theorem RequestEntry.Served.of_step (hstep : r.step = c) (hexec : ∀ s, exec c s = .next (s.live (·.serve mine parse act)))
    (htakes : mine r = true) (hwaiting : mine { r with state := .waiting } = true) (hbeside : ∀ s, ActsBeside act s)
    (heffect : EffectIgnoresLink act) (hsession : r.code ≠ 0x01 → r.code ≠ 0x02 → r.code ≠ 0x30 → IgnoresSession act) :
    r.Served :=
  ⟨α, mine, parse, act,
    { exec_eq := fun s => hstep ▸ hexec s
      takes := htakes
      takes_waiting := hwaiting
      beside := hbeside
      effect := heffect
      session := hsession }⟩

/-- A request of a code whose step is `c`. -/
theorem RequestEntry.Served.of_code (hstep : ∀ tag p st, RequestEntry.step ⟨code, tag, p, st⟩ = c)
    (hexec : ∀ s, exec c s = .next (s.live (·.serve (codeIs code) parse act))) (hbeside : ∀ s, ActsBeside act s)
    (heffect : EffectIgnoresLink act) (hsession : code ≠ 0x01 → code ≠ 0x02 → code ≠ 0x30 → IgnoresSession act)
    (hcode : r.code = code) : r.Served :=
  .of_step (RequestEntry.step_of_codeIs hstep r (RequestEntry.code_eq.mpr hcode)) hexec (RequestEntry.code_eq.mpr hcode)
    (RequestEntry.code_eq.mpr hcode) hbeside heffect (hcode ▸ hsession)

/-- A request of an owner that reads neither the link nor the session's state. -/
theorem RequestEntry.Served.of_owner (hstep : ∀ tag p st, RequestEntry.step ⟨code, tag, p, st⟩ = c)
    (hexec : ∀ s, exec c s = .next (s.live (·.serve (codeIs code) parse act))) (hlink : IgnoresLink act)
    (hsession : IgnoresSession act) (hcode : r.code = code) : r.Served :=
  .of_code hstep hexec hlink.beside hlink.effect (fun _ _ _ => hsession) hcode

end Served

/-- SET GATE has two steps, by its enabled field (log entry 8). -/
theorem RequestEntry.served_setGate {r : RequestEntry} (hcode : r.code = 0x10) : r.Served := by
  have hcodeIs : codeIs 0x10 r = true := RequestEntry.code_eq.mpr hcode
  by_cases hfield : enabledField r.payload = some 1
  · have htakes : (codeIs 0x10 r && enabledField r.payload == some 1) = true := by
      rw [hcodeIs, hfield, beq_self_eq_true, Bool.and_true]
    exact .of_step (RequestEntry.step_setGateEnable r htakes) (fun _ => rfl) htakes htakes enableGate_ignoresLink.beside
      enableGate_ignoresLink.effect fun _ _ _ => enableGate_ignoresSession
  · have htakes : (codeIs 0x10 r && enabledField r.payload != some 1) = true := by
      rw [hcodeIs, Bool.true_and]
      exact bne_iff_ne.mpr hfield
    exact .of_step (RequestEntry.step_setGateDisable r htakes) (fun _ => rfl) htakes htakes disableGate_ignoresLink.beside
      disableGate_ignoresLink.effect fun _ _ _ => disableGate_ignoresSession

theorem RequestEntry.served_unknown {r : RequestEntry} (h : payloadFits r.code r.payload = none) : r.Served :=
  .of_step (mine := fun r => (payloadFits r.code r.payload).isNone) (RequestEntry.step_unknown h) (fun _ => rfl)
    (Option.isNone_iff_eq_none.mpr h) (Option.isNone_iff_eq_none.mpr h) noOwner_ignoresLink.beside
    noOwner_ignoresLink.effect fun _ _ _ _ _ _ => rfl

/-- The owners of the table of R165, in its order. -/
theorem RequestEntry.served_table {r : RequestEntry} : ∀ e ∈ requestTable, r.code = e.1 → r.Served := by
  simp only [requestTable, List.forall_mem_cons]
  refine ⟨?openSession, ?closeSession, ?ping, ?status, ?resetPart, RequestEntry.served_setGate, ?getGate, ?armClock,
    ?disarmClock, ?startClock, ?haltClock, ?resumeClock, ?clearClock, ?readClock, ?getCourse, ?stageRun, ?withdrawRun,
    ?startGroup, ?readRun, ?releaseRun, ?listRuns, ?holdAssignment, ?releaseAssignment, ?swapRuns, ?assignCrossing,
    ?voidSplit, ?discardCrossing, ?readQueue, ?readUnassigned, ?manualCrossing, fun _ h => nomatch h⟩
  case openSession =>
    exact .of_code (fun _ _ _ => rfl) (fun _ => rfl) openSession_ignoresLink.beside openSession_ignoresLink.effect
      fun h => absurd rfl h
  case closeSession =>
    exact .of_code (fun _ _ _ => rfl) (fun _ => rfl) closeSession_ignoresLink.beside closeSession_ignoresLink.effect
      fun _ h => absurd rfl h
  case holdAssignment =>
    exact .of_code (fun _ _ _ => rfl) (fun _ => rfl) holdAssignment_ignoresLink.beside holdAssignment_ignoresLink.effect
      fun _ _ h => absurd rfl h
  case status =>
    exact .of_code (fun _ _ _ => rfl) (fun _ => rfl) status_actsBeside status_effectIgnoresLink
      fun _ _ _ => status_ignoresSession
  case ping => exact .of_owner (fun _ _ _ => rfl) (fun _ => rfl) ping_ignoresLink ping_ignoresSession
  case resetPart => exact .of_owner (fun _ _ _ => rfl) (fun _ => rfl) resetPart_ignoresLink resetPart_ignoresSession
  case getGate => exact .of_owner (fun _ _ _ => rfl) (fun _ => rfl) readGate_ignoresLink readGate_ignoresSession
  case armClock => exact .of_owner (fun _ _ _ => rfl) (fun _ => rfl) armClock_ignoresLink armClock_ignoresSession
  case disarmClock => exact .of_owner (fun _ _ _ => rfl) (fun _ => rfl) disarmClock_ignoresLink disarmClock_ignoresSession
  case startClock => exact .of_owner (fun _ _ _ => rfl) (fun _ => rfl) startClock_ignoresLink startClock_ignoresSession
  case haltClock => exact .of_owner (fun _ _ _ => rfl) (fun _ => rfl) haltClock_ignoresLink haltClock_ignoresSession
  case resumeClock => exact .of_owner (fun _ _ _ => rfl) (fun _ => rfl) resumeClock_ignoresLink resumeClock_ignoresSession
  case clearClock => exact .of_owner (fun _ _ _ => rfl) (fun _ => rfl) clearClock_ignoresLink clearClock_ignoresSession
  case readClock => exact .of_owner (fun _ _ _ => rfl) (fun _ => rfl) readClock_ignoresLink readClock_ignoresSession
  case getCourse => exact .of_owner (fun _ _ _ => rfl) (fun _ => rfl) getCourse_ignoresLink getCourse_ignoresSession
  case stageRun => exact .of_owner (fun _ _ _ => rfl) (fun _ => rfl) stageRun_ignoresLink stageRun_ignoresSession
  case withdrawRun => exact .of_owner (fun _ _ _ => rfl) (fun _ => rfl) withdrawRun_ignoresLink withdrawRun_ignoresSession
  case startGroup => exact .of_owner (fun _ _ _ => rfl) (fun _ => rfl) startGroup_ignoresLink startGroup_ignoresSession
  case readRun => exact .of_owner (fun _ _ _ => rfl) (fun _ => rfl) readRun_ignoresLink readRun_ignoresSession
  case releaseRun => exact .of_owner (fun _ _ _ => rfl) (fun _ => rfl) releaseRun_ignoresLink releaseRun_ignoresSession
  case listRuns => exact .of_owner (fun _ _ _ => rfl) (fun _ => rfl) listRuns_ignoresLink listRuns_ignoresSession
  case releaseAssignment => exact .of_owner (fun _ _ _ => rfl) (fun _ => rfl) releaseAssignment_ignoresLink releaseAssignment_ignoresSession
  case swapRuns => exact .of_owner (fun _ _ _ => rfl) (fun _ => rfl) swapRuns_ignoresLink swapRuns_ignoresSession
  case assignCrossing => exact .of_owner (fun _ _ _ => rfl) (fun _ => rfl) assignCrossing_ignoresLink assignCrossing_ignoresSession
  case voidSplit => exact .of_owner (fun _ _ _ => rfl) (fun _ => rfl) voidSplit_ignoresLink voidSplit_ignoresSession
  case discardCrossing => exact .of_owner (fun _ _ _ => rfl) (fun _ => rfl) discardCrossing_ignoresLink discardCrossing_ignoresSession
  case readQueue => exact .of_owner (fun _ _ _ => rfl) (fun _ => rfl) readQueue_ignoresLink readQueue_ignoresSession
  case readUnassigned => exact .of_owner (fun _ _ _ => rfl) (fun _ => rfl) readUnassigned_ignoresLink readUnassigned_ignoresSession
  case manualCrossing => exact .of_owner (fun _ _ _ => rfl) (fun _ => rfl) manualCrossing_ignoresLink manualCrossing_ignoresSession

/-- Every request has a step that serves it: that of its code, and that of UNKNOWN_REQUEST for a code that names none. -/
theorem RequestEntry.served (r : RequestEntry) : r.Served := by
  by_cases h : payloadFits r.code r.payload = none
  · exact RequestEntry.served_unknown h
  · obtain hcourse | ⟨n, hn⟩ := not_not.mp (mt RequestEntry.fits_none.mpr h)
    · exact .of_owner (fun _ _ _ => rfl) (fun _ => rfl) setCourse_ignoresLink setCourse_ignoresSession hcourse
    · exact RequestEntry.served_table (r.code, n) hn rfl

/-- The step of a request that a generic check refuses is the refusal (R136). -/
theorem exec_step_refused {s : State} {r : RequestEntry} (hl : s.pins.resetLow = false) (hn : s.nextRequest = some r)
    {st : Status} (h : genericRefusal s.session.state r = some st) :
    exec r.step s = .next (s.setLink (s.link.answer (.refuse st))) := by
  obtain ⟨_, mine, parse, act, hserved⟩ := r.served
  rw [hserved.exec_eq]
  exact congrArg Host.Outcome.next (State.live_serve_refused (hserved.beside s) hl hn hserved.takes h)

/-- Settles O38: the first of the three checks that fails is what the step of the request replies. -/
theorem genericChecksRefuse : Obligations.GenericChecksRefuse := by
  refine ⟨fun s r hl hn => ⟨fun hunknown => exec_step_refused hl hn (genericRefusal_unknown hunknown),
    fun hknown hwrong => exec_step_refused hl hn (genericRefusal_badLength hknown hwrong),
    fun hright hclosed hcode => exec_step_refused hl hn (genericRefusal_notOpen hright hclosed hcode)⟩,
    fun s r hl hn hunknown => ?_⟩
  rw [← RequestEntry.step_unknown (RequestEntry.fits_none.mpr hunknown)]
  exact exec_step_refused hl hn (genericRefusal_unknown hunknown)

end Sys2Proof.Machine
end

section
/-! PROOFS. Reports stored (R146, R147), the session's timers (R153 to R156), and the end of a report frame (R149, R152). -/

namespace Sys2Proof.Machine

/-- Settles O49: by whether there is room for a report. -/
theorem reportsAreStored : Obligations.ReportsAreStored := fun s b =>
  ⟨fun hroom => congrArg (fun ss => ({ s with session := ss } : State)) (Session.store_room hroom s.clock.count b),
    fun hfull => congrArg (fun ss => ({ s with session := ss } : State)) <| by
      rw [Session.store_full hfull, Word.saturatingSucc]
      congr 1
      split
      · next hmax => exact hmax
      · rfl⟩

/-! ## The timers -/

theorem expiredBy_of_le {now e : Instant} {timer : Option Instant} (ht : timer = some e) (he : e ≤ now) :
    expiredBy now timer = true := by
  rw [ht]
  exact decide_eq_true he

section Timers

variable {s : State} {e : Instant}

theorem State.retryTimerExpiry_goesBack (hopen : s.session.state = .opened) (ht : s.session.retryTimer = some e)
    (he : e ≤ s.instant) (hcount : s.session.retryCount + 1 < 6) : s.retryTimerExpiry = s.setSession { s.session with
      reports := recallReports s.session.reports, retryCount := s.session.retryCount + 1, retryTimer := none } := by
  rw [State.retryTimerExpiry, if_pos ⟨hopen, expiredBy_of_le ht he⟩]
  exact if_pos hcount

/-- At the limit the departure takes the go-back with it (R153, R155). -/
theorem State.retryTimerExpiry_silent (hopen : s.session.state = .opened) (ht : s.session.retryTimer = some e)
    (he : e ≤ s.instant) (hcount : 6 ≤ s.session.retryCount + 1) : s.retryTimerExpiry = s.enterSilent := by
  rw [State.retryTimerExpiry, if_pos ⟨hopen, expiredBy_of_le ht he⟩]
  exact (if_neg (Nat.not_lt.mpr hcount)).trans (s.leaveSession_goBack _ _ _)

theorem State.keepaliveExpiry_silent (hopen : s.session.state = .opened) (ht : s.session.keepaliveTimer = some e)
    (he : e ≤ s.instant) : s.keepaliveExpiry = s.enterSilent := if_pos ⟨hopen, expiredBy_of_le ht he⟩

end Timers

theorem Session.store_sessionState (ss : Session) (t : Tick) (b : ReportBody) : (ss.store t b).state = ss.state := by
  unfold Session.store
  split <;> rfl

/-- Settles O51: a go-back below the limit, and else the departure to SILENT, which ends a hold. -/
theorem timersExpire : Obligations.TimersExpire := by
  rintro s ss e hl hopen he rfl
  refine ⟨fun ht hcount => next_live hl (State.retryTimerExpiry_goesBack hopen ht he hcount), ?_⟩
  rintro quiet t hquiet rfl
  have hleave : s.enterSilent = _ := State.leaveSession_eq (fun _ => hopen) .sessionSilent hquiet
  refine ⟨?_, fun ht hcount => next_live hl ((State.retryTimerExpiry_silent hopen ht he hcount).trans hleave),
    fun ht => next_live hl ((State.keepaliveExpiry_silent hopen ht he).trans hleave)⟩
  have hsilent : (if s.tracker.assignment = .held then quiet.store s.clock.count (.holdReleased .sessionSilent)
      else quiet).state = .silent := by
    split
    · rw [Session.store_sessionState, hquiet]
    · rw [hquiet]
  simp [State.hlost, hsilent, hl]

/-! ## The end of a report frame (R149, R152) -/

section Admits

variable {ss : Session} {q : Word} {older newer : List Report} {r : Report}

/-- No two stored reports having one sequence, those older than a report are the ones before its sequence (R148). -/
theorem Session.Lawful.takeWhile_older (h : ss.Lawful) (hsplit : ss.reports = older ++ r :: newer) (hq : r.sequence = q) :
    ss.reports.takeWhile (fun r => r.sequence ≠ q) = older := by
  obtain ⟨hlen, hseq, -⟩ := h
  have hd := (ss.sequencesConsecutive_iff.mp hseq).nodup hlen
  rw [hsplit, List.map_append, List.map_cons, List.nodup_append] at hd
  obtain ⟨-, -, hne⟩ := hd
  have holder : ∀ x ∈ older, decide (x.sequence ≠ q) = true := fun x hx =>
    decide_eq_true (hq ▸ hne _ (List.mem_map_of_mem hx) _ List.mem_cons_self)
  rw [hsplit, List.takeWhile_append_of_pos holder, List.takeWhile_cons_of_neg (by simp [hq]), List.append_nil]

theorem Session.Lawful.admits (h : ss.Lawful) (hsplit : ss.reports = older ++ r :: newer) (hq : r.sequence = q)
    (holder : ∀ x ∈ older, x.delivery = .inFlight) (hopen : ss.state = .opened)
    (hroom : ss.reports.countP (fun r => r.delivery = .inFlight) < ss.window.toNat) : ss.admits q = true := by
  rw [← Session.inFlight_eq_countP] at hroom
  rw [Session.admits, h.takeWhile_older hsplit hq]
  simp only [Bool.and_eq_true, List.any_eq_true, List.all_eq_true, beq_iff_eq, decide_eq_true_eq]
  exact ⟨⟨⟨⟨r, by simp [hsplit], hq⟩, hopen⟩, hroom⟩, holder⟩

/-- The four conditions of R149, each enough to keep a report from going in flight. -/
theorem Session.Lawful.not_admits (h : ss.Lawful) (hnot : ss.state ≠ .opened
    ∨ ss.window.toNat ≤ ss.reports.countP (fun r => r.delivery = .inFlight)
    ∨ (∀ r ∈ ss.reports, r.sequence ≠ q)
    ∨ (∃ older r newer, ss.reports = older ++ r :: newer ∧ r.sequence = q ∧ ∃ r' ∈ older, r'.delivery = .unsent)) :
    ss.admits q = false := by
  refine Bool.eq_false_iff.mpr fun hadm => ?_
  obtain ⟨hopen, hroom, older, r, newer, hsplit, hq, holder⟩ := Session.admits_split hadm
  obtain hclosed | hfull | hgone | ⟨older', r', newer', hsplit', hq', x, hx, hunsent⟩ := hnot
  · exact hclosed hopen
  · exact absurd hroom (Nat.not_lt.mpr (Session.inFlight_eq_countP ss ▸ hfull))
  · exact hgone r (by simp [hsplit]) hq
  · rw [← h.takeWhile_older hsplit' hq', h.takeWhile_older hsplit hq] at hx
    exact absurd ((holder x hx).symm.trans hunsent) (by decide)

theorem Session.Lawful.markInFlight_eq (h : ss.Lawful) (now : Instant) (hsplit : ss.reports = older ++ r :: newer)
    (hq : r.sequence = q) : ss.markInFlight now q = { ss with
      reports := older ++ { r with delivery := .inFlight } :: newer
      retryTimer := some (ss.retryTimer.getD (now + 2500)) } := by
  obtain ⟨hlen, hseq, -⟩ := h
  have hd := (ss.sequencesConsecutive_iff.mp hseq).nodup hlen
  rw [hsplit] at hd
  rw [Session.markInFlight, hsplit, ← hq, map_mark_eq (fun r => { r with delivery := .inFlight }) hd]

end Admits

theorem State.reportSent_eq {s : State} {q : Word} {f : List Byte} (ht : s.link.transmitter = .report q f) :
    s.reportSent = s.freeTransmitter.setSession
      (if s.session.admits q then s.session.markInFlight s.instant q else s.session) := by
  simp only [State.reportSent, ht]

/-- The transmitter free, with what it finds at the reply slots as the statements say it (R138). -/
theorem State.freeTransmitter_eq (s : State) : s.freeTransmitter = s.setLink { s.link with
    transmitter := .free
    openChoice := decide (s.link.shortReply = none ∧ ∀ e ∈ s.link.buffer, e.readyReply = none) } := by
  rw [State.freeTransmitter, LinkController.not_replyPresent]

/-- Settles O50: by whether the Session admits the report. -/
theorem reportSentGoesInFlight : Obligations.ReportSentGoesInFlight := by
  rintro s q f _ hlaw hl ht rfl
  refine ⟨fun older r newer hsplit hq holder hopen hroom => next_live hl ?_, fun hnot => next_live hl ?_⟩
  · rw [State.reportSent_eq ht, if_pos (hlaw.admits hsplit hq holder hopen hroom), hlaw.markInFlight_eq s.instant hsplit hq,
      State.freeTransmitter_eq]
    rfl
  · rw [State.reportSent_eq ht, hlaw.not_admits hnot, State.freeTransmitter_eq]
    rfl

end Sys2Proof.Machine
end

section
/-! PROOFS. The transmitter (R133, R138, R139, R149), and RESET PART (R140): what begins at the free transmitter, the replies
sent, and the two ways in which a decided reset of the part completes. -/

namespace Sys2Proof.Machine

/-! ## The request buffer about one entry -/

section OneEntry

variable {p : RequestEntry → Bool} {older newer : List RequestEntry} {e : RequestEntry}

theorem replaceFirst_append (f : RequestEntry → RequestEntry) (holder : ∀ e' ∈ older, p e' = false) (he : p e = true) :
    replaceFirst p f (older ++ e :: newer) = older ++ f e :: newer := by
  induction older with
  | nil => exact if_pos he
  | cons x xs ih =>
    rw [List.cons_append, replaceFirst, holder x List.mem_cons_self,
      ih fun e' h => holder e' (List.mem_cons_of_mem _ h)]
    rfl

theorem eraseP_append_cons (holder : ∀ e' ∈ older, p e' = false) (he : p e = true) :
    (older ++ e :: newer).eraseP p = older ++ newer := by
  rw [List.eraseP_append_right _ fun e' h => by simp [holder e' h], List.eraseP_cons_of_pos he]

theorem find_append_cons (holder : ∀ e' ∈ older, p e' = false) (he : p e = true) :
    (older ++ e :: newer).find? p = some e :=
  List.find?_eq_some_iff_append.mpr ⟨he, older, newer, rfl, fun e' h => by simp [holder e' h]⟩

end OneEntry

theorem RequestEntry.readyReply_ready {e : RequestEntry} {f : List Byte} (h : e.state = .ready f) :
    e.readyReply = some f := by
  simp only [RequestEntry.readyReply, h]

theorem RequestEntry.readyReply_none {e : RequestEntry} (h : ∀ f, e.state ≠ .ready f) : e.readyReply = none := by
  unfold RequestEntry.readyReply
  split
  · next f hf => exact absurd hf (h f)
  all_goals rfl

theorem RequestEntry.not_sending {e : RequestEntry} (h : ∀ f, e.state ≠ .sending f) : e.isSending = false := by
  unfold RequestEntry.isSending
  split
  · next f hf => exact absurd hf (h f)
  all_goals rfl

/-! ## The report that the Session offers (R149) -/

theorem State.offeredReport_some {s : State} {r : Report} (h : s.Offers r) : s.offeredReport = some r := by
  obtain ⟨hopen, hroom, hdecided, hunsent, older, newer, hsplit, holder⟩ := h
  rw [State.offeredReport, if_pos ⟨hopen, s.session.inFlight_eq_countP ▸ hroom, hdecided⟩]
  exact List.find?_eq_some_iff_append.mpr
    ⟨beq_iff_eq.mpr hunsent, older, newer, hsplit, fun r' hr' => by simp [holder r' hr']⟩

theorem State.offeredReport_none {s : State} (h : s.OffersNone) : s.offeredReport = none := by
  unfold State.offeredReport
  split
  · next hall =>
    obtain ⟨hopen, hroom, hdecided⟩ := hall
    rw [Session.inFlight_eq_countP] at hroom
    obtain hclosed | hfull | hreset | hflying := h
    · exact absurd hopen hclosed
    · exact absurd hroom (Nat.not_lt.mpr hfull)
    · exact absurd (hdecided.symm.trans hreset) (by decide)
    · exact List.find?_eq_none.mpr fun r hr => by simp [hflying r hr]
  · rfl

/-! ## The start of a frame (R138, R139) -/

theorem State.startReport_some {s : State} {r : Report} (h : s.offeredReport = some r) :
    s.startReport = s.beginFrame (.report r.sequence (reportFrame r)) := by
  simp only [State.startReport, h]

theorem State.startReport_none {s : State} (h : s.offeredReport = none) : s.startReport = s := by
  simp only [State.startReport, h]

/-- The reply that the transmitter begins, and the buffer that its beginning leaves (R138). -/
def LinkController.Begins (l : LinkController) (reply : Transmitter) (buffer : List RequestEntry) : Prop :=
  (∃ f, l.shortReply = some f ∧ reply = .shortReply f ∧ buffer = l.buffer)
  ∨ l.shortReply = none ∧ ∃ older e f newer, l.buffer = older ++ e :: newer ∧ e.state = .ready f
      ∧ (∀ e' ∈ older, ∀ f', e'.state ≠ .ready f') ∧ reply = .bufferReply f
      ∧ buffer = older ++ { e with state := .sending f } :: newer

theorem State.startNext_reply {s : State} {reply : Transmitter} {buffer : List RequestEntry}
    (h : s.link.Begins reply buffer) : s.startNext =
      s.setLink { s.link with transmitter := reply, buffer := buffer, openChoice := false } := by
  obtain ⟨f, hshort, rfl, rfl⟩ | ⟨hshort, older, e, f, newer, hsplit, hready, holder, rfl, rfl⟩ := h
  · have hbegin : s.startNext = s.beginFrame (.shortReply f) := by simp only [State.startNext, hshort]
    exact hbegin
  · have hnone : ∀ e' ∈ older, e'.readyReply = none := fun e' h => RequestEntry.readyReply_none (holder e' h)
    have hsome := RequestEntry.readyReply_ready hready
    have hfirst : s.firstReady = some f := by
      rw [State.firstReady, hsplit, List.findSome?_append, List.findSome?_eq_none_iff.mpr hnone, List.findSome?_cons, hsome]
      rfl
    have hreplace := replaceFirst_append (newer := newer) (p := fun e => e.readyReply.isSome)
      (fun e => { e with state := .sending f }) (fun e' h => by rw [hnone e' h]; rfl) (by rw [hsome]; rfl)
    have hbegin : s.startNext = (s.setBuffer (older ++ { e with state := .sending f } :: newer)).beginFrame (.bufferReply f) := by
      simp only [State.startNext, hshort, hfirst, hsplit, hreplace]
    exact hbegin

theorem LinkController.Begins.replyPresent {l : LinkController} {reply : Transmitter} {buffer : List RequestEntry}
    (h : l.Begins reply buffer) : l.replyPresent = true := by
  obtain ⟨f, hshort, -⟩ | ⟨-, older, e, f, newer, hsplit, hready, -⟩ := h
  · simp [LinkController.replyPresent, hshort]
  · simp [LinkController.replyPresent, hsplit, RequestEntry.readyReply_ready hready]

/-- With no reply present the report offered begins, if one is (R138). -/
theorem State.startNext_noReply {s : State} (hshort : s.link.shortReply = none)
    (hready : ∀ e ∈ s.link.buffer, ∀ f, e.state ≠ .ready f) : s.startNext = s.startReport := by
  have hfirst : s.firstReady = none :=
    List.findSome?_eq_none_iff.mpr fun e he => RequestEntry.readyReply_none (hready e he)
  simp only [State.startNext, hshort, hfirst]

section FrameStart

variable {s : State}

theorem State.frameStart_busy (h : s.link.transmitter ≠ .free) : s.frameStart = s := by
  unfold State.frameStart
  split
  · next hfree => exact absurd hfree h
  all_goals rfl

theorem State.frameStart_settled (hfree : s.link.transmitter = .free) (h : s.choiceOpen = false) :
    s.frameStart = s.startNext := by
  simp [State.frameStart, hfree, h]

theorem State.frameStart_meeting (hfree : s.link.transmitter = .free) (h : s.choiceOpen = true) :
    s.frameStart = if Config.meeting s.meetings then s.meet.startReport else s.meet.startNext := by
  simp [State.frameStart, hfree, h]

theorem State.choiceOpen_noReply (hshort : s.link.shortReply = none)
    (hready : ∀ e ∈ s.link.buffer, ∀ f, e.state ≠ .ready f) : s.choiceOpen = false := by
  have hnone : s.link.replyPresent = false :=
    LinkController.replyPresent_false.mpr ⟨hshort, fun e he => RequestEntry.readyReply_none (hready e he)⟩
  simp [State.choiceOpen, hnone]

end FrameStart

/-- Settles O46: by whether a reply is present, and whether a report is offered beside it. -/
theorem frameStartChooses : Obligations.FrameStartChooses := by
  intro s hl
  refine ⟨fun hbusy => next_live hl (State.frameStart_busy hbusy), fun hfree => ⟨fun reply buffer hbegins => ?_,
    fun hshort hready => ?_⟩⟩
  · replace hbegins : s.link.Begins reply buffer := hbegins
    refine ⟨fun hsettled => next_live hl ?_, fun r hopen hoffers => next_live hl ?_⟩
    · have hchoice : s.choiceOpen = false := by
        obtain hclosed | hnone := hsettled
        · simp [State.choiceOpen, hclosed]
        · simp [State.choiceOpen, State.offeredReport_none hnone]
      rw [State.frameStart_settled hfree hchoice, State.startNext_reply hbegins]
      rfl
    · have hoffered := State.offeredReport_some hoffers
      have hchoice : s.choiceOpen = true := by simp [State.choiceOpen, hopen, hbegins.replyPresent, hoffered]
      rw [State.frameStart_meeting hfree hchoice, State.startNext_reply (s := s.meet) hbegins,
        State.startReport_some (s := s.meet) hoffered]
      split <;> rfl
  · have hframe := (State.frameStart_settled hfree (State.choiceOpen_noReply hshort hready)).trans
      (State.startNext_noReply hshort hready)
    exact ⟨fun r hoffers => next_live hl (hframe.trans (State.startReport_some (State.offeredReport_some hoffers))),
      fun hnone => next_live hl (hframe.trans (State.startReport_none (State.offeredReport_none hnone)))⟩

/-! ## The end of a reply (R134, R138, R140) -/

section BufferReplySent

variable {s : State} {f : List Byte} {older newer : List RequestEntry} {e : RequestEntry}

theorem State.shortReplySent_eq (ht : s.link.transmitter = .shortReply f) :
    s.shortReplySent = (s.setLink { s.link with shortReply := none }).freeTransmitter := by
  simp only [State.shortReplySent, ht]

/-- The reply that ends is that of the one entry in SENDING (R133). -/
theorem State.bufferReplySent_eq (ht : s.link.transmitter = .bufferReply f) (hsplit : s.link.buffer = older ++ e :: newer)
    (he : e.state = .sending f) (holder : ∀ e' ∈ older, ∀ f', e'.state ≠ .sending f') : s.bufferReplySent =
      if e.isPartReset then s.partReset
      else (s.setLink { s.link with
        buffer := older ++ newer, replyCache := some ⟨e.code, e.tag, f⟩ }).freeTransmitter := by
  have hnot : ∀ e' ∈ older, e'.isSending = false := fun e' h => RequestEntry.not_sending (holder e' h)
  have hsending := RequestEntry.isSending_of_state he
  simp only [State.bufferReplySent, ht, hsplit, find_append_cons hnot hsending, eraseP_append_cons hnot hsending]

end BufferReplySent

/-- Settles O47: by which reply ends, that of a RESET PART left out. -/
theorem repliesSent : Obligations.RepliesSent := by
  refine fun s hl => ⟨fun f ht => next_live hl ?_, fun older e f newer ht hsplit he holder hcode => next_live hl ?_⟩
  · rw [State.shortReplySent_eq ht, State.freeTransmitter_eq]
    simp [State.setLink]
  · have hnot : ¬ e.isPartReset = true := fun h =>
      (RequestEntry.isPartReset_iff.mp h).elim fun hc hp => hcode hc hp
    rw [State.bufferReplySent_eq ht hsplit he holder, if_neg hnot, State.freeTransmitter_eq]
    rfl

/-! ## RESET PART (R140) -/

/-- Of the part, a reset of it keeps the link rate, the pins, a break in progress, the divider's count and the queue. -/
theorem State.partReset_congr {s t : State} (h : DueChange s t) : t.partReset = s.partReset := by
  rw [State.partReset, State.partReset, h.link, h.pins, h.instant, h.meetings, h.pending]

theorem State.breakWith_decided (s : State) (hand : Option RequestEntry) :
    s.breakWith hand true = (s.setLink { s.link with breakHeld := true }).partReset :=
  (State.partReset_congr (State.leaveSession_due _ _ _)).trans rfl

/-- A reset of the part that is decided completes at the link reset, and no request is in front at it (R140). -/
theorem State.lineBreak_decided {s : State} (hheld : s.link.breakHeld = false) (h : s.resetDecided = true) :
    s.lineBreak = (s.setLink { s.link with breakHeld := true }).partReset := by
  have hnone : s.nextRequest = none := by simp [State.nextRequest, h]
  simp [State.lineBreak, hheld, hnone, h, State.breakWith_decided]

theorem State.lineBreak_front {s : State} {r : RequestEntry} (hheld : s.link.breakHeld = false)
    (hn : s.nextRequest = some r) : s.lineBreak = if Config.meeting s.meetings then
      s.meet.breakWith (s.handOf r) r.isPartReset else s.meet.breakWith none false := by
  simp [State.lineBreak, hheld, hn]

/-- The take of a RESET PART decides the reset: its entry, no longer WAITING, holds the reply (R140). -/
theorem State.answer_decided {s t : State} {tag : Byte} (hn : s.nextRequest = some ⟨0x05, tag, [], .waiting⟩)
    (r : Response) (ht : t.link = s.link.answer r) : t.resetDecided = true := by
  obtain ⟨-, -, hfind, -⟩ := State.nextRequest_some hn
  obtain ⟨hwaiting, older, newer, hsplit, holder⟩ := List.find?_eq_some_iff_append.mp hfind
  have hbuffer : t.link.buffer = older ++ ⟨0x05, tag, [], .ready (replyFrame 0x05 tag r)⟩ :: newer := by
    rw [ht, LinkController.answer, hsplit]
    exact replaceFirst_append _ (fun e he => by simpa using holder e he) hwaiting
  refine List.any_eq_true.mpr ⟨⟨0x05, tag, [], .ready (replyFrame 0x05 tag r)⟩, ?_, rfl⟩
  rw [hbuffer]
  exact List.mem_append_right _ List.mem_cons_self

theorem State.leaveSession_tracker (s : State) (next : SessionState) (why : ReleaseCause) :
    (s.leaveSession next why).tracker = { s.tracker with assignment := (s.leaveSession next why).tracker.assignment } := by
  unfold State.leaveSession State.departure
  dsimp only
  split
  · split <;> rfl
  · rfl

/-- A link reset that resets no part leaves the race, the pins and the count of meetings (R129). -/
theorem State.breakWith_sameRace (s : State) (hand : Option RequestEntry) : SameRace s (s.breakWith hand false) where
  clock := (State.leaveSession_sameRace _ _ _).clock
  gates := (State.leaveSession_sameRace _ _ _).gates
  crossings := (State.leaveSession_sameRace _ _ _).crossings
  pending := (State.leaveSession_sameRace _ _ _).pending

theorem State.breakWith_pins (s : State) (hand : Option RequestEntry) : (s.breakWith hand false).pins = s.pins :=
  (State.leaveSession_due _ _ _).pins

theorem State.breakWith_meetings (s : State) (hand : Option RequestEntry) :
    (s.breakWith hand false).meetings = s.meetings := (State.leaveSession_due _ _ _).meetings

/-- Settles O48: the take, the end of the reply, and the link reset before it, by whether the reset is decided. -/
theorem resetPartResets : Obligations.ResetPartResets := by
  refine ⟨fun s tag hn => ⟨?_, fun t ht => ?_⟩, ?_⟩
  · exact congrArg Host.Outcome.next
      (State.live_serve_acts_passing (resetPart_ignoresLink.beside s) hn rfl rfl rfl rfl)
  · have hdecided := State.answer_decided hn.2 .ok ht
    exact ⟨hdecided, by simp [State.nextRequest, hdecided]⟩
  · rintro s t held hl ht
    refine ⟨fun older e f newer htx hsplit he holder hcode hpayload hheld => next_live hl ?_,
      fun ⟨e, he, hcode, hpayload, hstate⟩ hfree hheld => next_live hl ?_, fun tag hn hfree hheld => ?_⟩
    · rw [State.bufferReplySent_eq htx hsplit he holder, if_pos (RequestEntry.isPartReset_iff.mpr ⟨hcode, hpayload⟩), ht,
        hheld]
      rfl
    · have hdecided : s.resetDecided = true := List.any_eq_true.mpr ⟨e, he, by
        rw [RequestEntry.isPartReset_iff.mpr ⟨hcode, hpayload⟩, Bool.true_and]
        simpa [RequestEntry.isWaiting] using hstate⟩
      rw [State.lineBreak_decided hfree hdecided, ht, hheld]
      rfl
    · have hreset : RequestEntry.isPartReset ⟨0x05, tag, [], .waiting⟩ = true := rfl
      have hbreak := State.lineBreak_front hfree hn.2
      refine ⟨s.lineBreak, next_live hl rfl, fun hmeet => ?_, fun hmeet => ?_⟩
      · rw [hbreak, if_pos hmeet, hreset, State.breakWith_decided, ht, hheld]
        rfl
      · rw [hbreak, hmeet, if_neg Bool.false_ne_true]
        have hlink := s.meet.breakWith_link none false
        have hrace := s.meet.breakWith_sameRace none
        exact ⟨congrArg LinkController.buffer hlink, congrArg LinkController.inHand hlink, hrace.clock, hrace.gates,
          hrace.crossings, State.leaveSession_tracker _ _ _, s.meet.breakWith_pins none,
          (congrArg LinkController.badFrames hlink).trans rfl, s.meet.breakWith_meetings none⟩

end Sys2Proof.Machine
end

section
/-! PROOFS. The break (R128 to R130): its link reset, the request that it may leave in hand, the effect of such a request, and
the end of the break. -/

namespace Sys2Proof.Machine

/-! ## The link reset (R129) -/

/-- The link reset of a break with no reset of the part decided, the session's departure written out (R89, R129). -/
theorem State.breakWith_eq {s : State} {ss : Session} (h : s.HoldLaw) (hand : Option RequestEntry)
    (hss : ss = { s.session with
      state := .closed, retryCount := 0, retryTimer := none, keepaliveTimer := none
      reports := s.session.reports.map fun r => { r with delivery := .unsent } }) :
    s.breakWith hand false = { s with
      tracker := { s.tracker with assignment := .taking }
      session := if s.tracker.assignment = .held then ss.store s.clock.count (.holdReleased .linkReset) else ss
      link := { s.link with
        receiver := .hunting, breakHeld := true, buffer := [], shortReply := none, replyCache := none
        inHand := hand, transmitter := .free, openChoice := true } } := by
  have hleft := State.leaveSession_eq (s := s.setLink { s.link with
    receiver := .hunting, breakHeld := true, buffer := [], shortReply := none, replyCache := none
    inHand := hand, transmitter := .free, openChoice := true }) (next := .closed) h .linkReset hss
  exact hleft

theorem State.lineBreak_noRequest {s : State} (hheld : s.link.breakHeld = false) (hn : s.nextRequest = none)
    (hd : s.resetDecided = false) : s.lineBreak = s.breakWith s.link.inHand false := by
  simp [State.lineBreak, hheld, hn, hd]

/-- What the link reset leaves in hand of the request in front, by the free value and the generic checks (R130, R136). -/
theorem State.lineBreak_request {s : State} {r : RequestEntry} {hand : Option RequestEntry}
    (hheld : s.link.breakHeld = false) (hn : s.nextRequest = some r) (hreset : r.isPartReset = false)
    (hhand : genericRefusal s.session.state r = none
        ∧ hand = (if Config.meeting s.meetings then some { r with state := .executing } else none)
      ∨ genericRefusal s.session.state r ≠ none ∧ hand = none) : s.lineBreak = s.meet.breakWith hand false := by
  rw [State.lineBreak_front hheld hn, hreset]
  obtain ⟨hpass, rfl⟩ | ⟨hrefused, rfl⟩ := hhand
  · rw [State.handOf, if_pos hpass]
    split <;> rfl
  · rw [State.handOf, if_neg hrefused, ite_self]

/-! ## A request in hand (R130) -/

section InHand

variable {s : State} {r : RequestEntry}

/-- The step of a request in hand is its act on the part, its reply dropped (R130). -/
theorem State.live_hand {α : Type} {code : Byte} {parse : List Byte → Option α} {act : State → α → State × Response}
    {a : α} (hact : IgnoresLink act) (hl : s.pins.resetLow = false) (hr : s.link.inHand = some r) (hcode : r.code = code)
    (hp : parse r.payload = some a) :
    s.live (·.serve (codeIs code) parse act) = (act s a).1.setLink { s.link with inHand := none } := by
  rw [State.live_high hl, State.serve_hand (hact.hand s) hr, if_pos (RequestEntry.code_eq.mpr hcode), hp]
  rfl

/-- Whatever a request in hand does, the link loses it and nothing else (R130). -/
theorem exec_hand_link (hl : s.pins.resetLow = false) (hr : s.link.inHand = some r) :
    ∃ t, exec r.step s = .next t ∧ t.link = { s.link with inHand := none } := by
  obtain ⟨_, mine, parse, act, hserved⟩ := r.served
  refine ⟨_, hserved.exec_eq s, ?_⟩
  rw [State.live_high hl, State.serve_hand (fun a => hserved.effect s { s.link with inHand := none } a) hr,
    if_pos hserved.takes]
  rfl

/-- A request in hand does to the part what it does alone in front of an OPEN session (R130). -/
theorem exec_hand_alone (hl : s.pins.resetLow = false) (hr : s.link.inHand = some r) (hright : r.LengthRight)
    (hopen : r.code ≠ 0x01) (hclose : r.code ≠ 0x02) (hhold : r.code ≠ 0x30) {t : State}
    (ht : exec r.step (s.alone r) = .next t) :
    exec r.step s = .next ((t.inSession s.session.state).setLink { s.link with inHand := none }) := by
  obtain ⟨_, mine, parse, act, hserved⟩ := r.served
  rw [hserved.exec_eq] at ht
  cases ht
  rw [hserved.exec_eq]
  exact congrArg Host.Outcome.next (State.live_serve_hand hserved.effect (hserved.session hopen hclose hhold)
    (hserved.beside _) hl hr (RequestEntry.fits_true.mpr hright) hserved.takes hserved.takes_waiting)

end InHand

/-! ## The acts of the requests that read the session (R87, R142, R143) -/

/-- A CLOSED session has nothing left to close: no report in flight, no timer, no retries (R143). -/
theorem State.leaveSession_closed {s : State} (h : s.session.Lawful) (hclosed : s.session.state = .closed)
    (why : ReleaseCause) : s.leaveSession .closed why = s := by
  obtain ⟨-, -, ⟨-, hflight, -⟩, -, -, -, -, hcount, hretry, hkeep⟩ := h
  have hne : s.session.state ≠ .opened := by rw [hclosed]; decide
  have hnone := hflight hne
  have hunsent := Session.inFlight_eq_zero.mp hnone
  have hreports : recallReports s.session.reports = s.session.reports :=
    (List.map_congr_left (g := id) fun r hr => by rw [← hunsent r hr] <;> rfl).trans (List.map_id _)
  have hretry' : s.session.retryTimer = none := by simpa [hnone] using hretry
  have hkeep' : s.session.keepaliveTimer = none := by simpa [hclosed] using hkeep
  rw [State.leaveSession, if_neg hne, hreports]
  refine congrArg (fun ss => ({ s with session := ss } : State)) ?_
  calc ({ s.session with state := .closed, retryCount := 0, retryTimer := none, keepaliveTimer := none } : Session)
      = { s.session with
          state := s.session.state, retryCount := s.session.retryCount, retryTimer := s.session.retryTimer
          keepaliveTimer := s.session.keepaliveTimer } := by rw [hclosed, hcount hne, hretry', hkeep']
    _ = s.session := rfl

/-! ## The break (R128, R129) -/

theorem State.lineBreak_held {s : State} (h : s.link.breakHeld = true) : s.lineBreak = s := by
  simp [State.lineBreak, h]

theorem State.breakEnd_held {s : State} (h : s.link.breakHeld = true) :
    s.breakEnd = s.setLink { s.link with breakHeld := false, receiver := .hunting } := by
  simp [State.breakEnd, h]

/-- Settles O45: the link reset with what it leaves in hand, the effect of the request in hand, and the break's end. -/
theorem breakResetsTheLink : Obligations.BreakResetsTheLink := by
  refine ⟨fun s ss hand n hl hheld hd hhold hss hcase => ?_, fun s r hl hr => ?_, fun s hheld => ?_,
    fun s hl hheld => next_live hl (State.breakEnd_held hheld)⟩
  · obtain ⟨hn, rfl, rfl⟩ | ⟨r, hn, rfl, hcode, hhand⟩ := hcase
    · exact next_live hl ((State.lineBreak_noRequest hheld hn hd).trans (State.breakWith_eq hhold _ hss))
    · have hreset : r.isPartReset = false := Bool.eq_false_iff.mpr fun h =>
        (RequestEntry.isPartReset_iff.mp h).elim fun hc hp => hcode hc hp
      refine next_live hl ((State.lineBreak_request hheld hn hreset ?_).trans
        (State.breakWith_eq (s := s.meet) hhold _ hss))
      obtain ⟨hknown, hright, hclosed, rfl⟩ | ⟨hnot, rfl⟩ := hhand
      · exact .inl ⟨genericRefusal_eq_none.mpr ⟨hknown, hright, hclosed⟩, rfl⟩
      · exact .inr ⟨fun h => hnot (genericRefusal_eq_none.mp h), rfl⟩
  · refine ⟨exec_hand_link hl hr, fun t hright h1 h2 h30 ht => exec_hand_alone hl hr hright h1 h2 h30 ht,
      ?openSession, ?holdAssignment, ?closeSession, ?armClock⟩
    case openSession =>
      intro w k flags hcode hpayload hw1 hw8 hk hflags
      have hparse : parseOpenSession r.payload = some (w, k, flags == 1) :=
        hpayload ▸ parseOpenSession_inRange hw1 hw8 hk (by rw [hflags]; decide)
      have hstep := State.live_hand openSession_ignoresLink hl hr hcode hparse
      have hopened := Session.openWith_eq (ss := s.session) (.inr ⟨hflags, rfl, rfl⟩) s.instant w k
      refine congrArg Host.Outcome.next (hstep.trans ?_)
      rw [State.openSession, hopened]
      rfl
    case holdAssignment =>
      intro hcode hpayload hopen
      have hstep := State.live_hand (a := ()) holdAssignment_ignoresLink hl hr hcode (congrArg parseNothing hpayload)
      rw [State.holdAssignment_refused hopen] at hstep
      exact congrArg Host.Outcome.next hstep
    case closeSession =>
      intro hcode hpayload hlaw hclosed
      have hstep := State.live_hand (a := ()) closeSession_ignoresLink hl hr hcode (congrArg parseNothing hpayload)
      rw [State.closeSession, State.leaveSession_closed hlaw hclosed] at hstep
      exact congrArg Host.Outcome.next hstep
    case armClock =>
      intro g hcode hpayload hidle hg
      have hparse : parseArmClock r.payload = some g := hpayload ▸ parseGate_ofNat g
      have hstep := State.live_hand armClock_ignoresLink hl hr hcode hparse
      rw [State.armClock_idle hidle hg] at hstep
      exact congrArg Host.Outcome.next hstep
  · obtain hsame | ⟨-, hlive⟩ := s.live_cases State.lineBreak
    · exact congrArg Host.Outcome.next hsame
    · exact congrArg Host.Outcome.next (hlive.trans (State.lineBreak_held hheld))

end Sys2Proof.Machine
end

section
/-! PROOFS. The bytes of the frames that the part sends (10.1 to 10.6): fields, the CRC register, replies and reports. -/

namespace Sys2Proof.Machine

/-! ## Fields (R163) -/

theorem bytes16_eq (w : Word) : bytes16 w = [BitVec.ofNat 8 (w.toNat / 256), BitVec.ofNat 8 w.toNat] := by
  simp [bytes16, BitVec.extractLsb', Nat.shiftRight_eq_div_pow]

theorem bytes32_eq (t : Tick) : bytes32 t = [BitVec.ofNat 8 (t.toNat / 16777216), BitVec.ofNat 8 (t.toNat / 65536),
    BitVec.ofNat 8 (t.toNat / 256), BitVec.ofNat 8 t.toNat] := by
  simp [bytes32, BitVec.extractLsb', Nat.shiftRight_eq_div_pow]

/-! ## The CRC (R161) -/

theorem crcShift_eq (crc : Word) : crcShift crc = if crc.msb = true then (crc <<< 1) ^^^ 0x1021 else crc <<< 1 := rfl

theorem byte_append_zero (b : Byte) : b ++ (0 : Byte) = b.setWidth 16 <<< 8 := by
  refine BitVec.eq_of_getLsbD_eq fun i hi => ?_
  simp only [BitVec.getLsbD_append, BitVec.getLsbD_shiftLeft, BitVec.getLsbD_setWidth]
  by_cases h : i < 8
  · simp [h]
  · simp [h, hi, show i - 8 < 16 by omega]

/-- One more covered byte (R161). -/
theorem crc16_snoc (covered : List Byte) (b : Byte) : crc16 (covered ++ [b]) =
    (fun crc : Word => if crc.msb = true then (crc <<< 1) ^^^ 0x1021 else crc <<< 1)^[8]
      (crc16 covered ^^^ (b.setWidth 16 <<< 8)) := by
  rw [crc16, List.foldl_append, ← byte_append_zero, ← funext crcShift_eq]
  rfl

/-! ## Replies and reports (R166 to R168) -/

theorem reportFrame_notLost {r : Report} (h : r.lost = none) : reportFrame r =
    frameOf (0xC0 :: bytes16 r.sequence ++ r.body.kind :: bytes32 r.created ++ r.body.bytes) := by
  simp [reportFrame, h]

theorem reportFrame_lost {r : Report} {n : Word} (h : r.lost = some n) : reportFrame r =
    frameOf (0xC0 :: bytes16 r.sequence ++ (r.body.kind + 0x80) :: bytes32 r.created ++ bytes16 n ++ r.body.bytes) := by
  simp [reportFrame, h]

/-- Settles O60: the fields, the CRC, the outer frame, a reply's status and a report's kind, each written out. -/
theorem framesAreLaidOut : Obligations.FramesAreLaidOut := by
  refine ⟨bytes16_eq, bytes32_eq, rfl, crc16_snoc, fun _ => rfl, fun code tag st payload => ⟨rfl, rfl⟩,
    fun r kind fields hbody => ?_⟩
  have hparts : r.body.kind = kind ∧ r.body.bytes = fields := by
    refine Prod.mk.inj (Eq.trans ?_ hbody.symm)
    cases r.body with
    | reset | clockState | crossingLost | runStarted | split | runEnded | unassigned | unassignedDropped | gateAlarm
    | holdReleased | crossing => rfl
  obtain ⟨rfl, rfl⟩ := hparts
  exact ⟨reportFrame_notLost, fun _ => reportFrame_lost⟩

end Sys2Proof.Machine
end

section
/-! PROOFS. The receiver (R124 to R127, R131): how it collects and discards, what it makes of a whole frame, and the
re-examination after a bad CRC, as the model computes it and as the statements say it. -/

namespace Sys2Proof.Machine

/-! ## The commands of the receiver (R124, R126) -/

section Collecting

variable {s : State}

theorem State.syncByteFound_hunting (hheld : s.link.breakHeld = false) (h : s.link.receiver = .hunting) :
    s.syncByteFound = s.characterSeen.setReceiver .length := by
  simp [State.syncByteFound, h, hheld, State.dropPartial]

theorem State.syncByteFound_lapsed (hheld : s.link.breakHeld = false) (h : s.link.receiver = .lapsed) :
    s.syncByteFound = (s.countBadFrame.setReceiver .hunting).characterSeen.setReceiver .length := by
  simp [State.syncByteFound, h, hheld, State.dropPartial]

theorem State.lengthAccepted_inRange {len : Byte} (hheld : s.link.breakHeld = false) (h : s.link.receiver = .length)
    (hmin : 4 ≤ len.toNat) (hmax : len.toNat ≤ 244) :
    s.lengthAccepted len = s.characterSeen.setReceiver (.body len []) := by
  simp only [State.lengthAccepted, h]
  exact if_pos ⟨hheld, hmin, hmax⟩

theorem State.bodyCharacter_more {len c : Byte} {cs : List Byte} (hheld : s.link.breakHeld = false)
    (h : s.link.receiver = .body len cs) (hmore : cs.length + 1 < len.toNat + 2) :
    s.bodyCharacter c = s.characterSeen.setReceiver (.body len (cs ++ [c])) := by
  simp only [State.bodyCharacter, h]
  exact if_pos ⟨hheld, hmore⟩

/-- A length byte out of range is no sync byte, so that the new hunt passes it over (R124). -/
theorem State.lengthOutOfRange_bad {len : Byte} (hheld : s.link.breakHeld = false) (h : s.link.receiver = .length)
    (hbad : len.toNat < 4 ∨ 244 < len.toNat) :
    s.lengthOutOfRange len = s.characterSeen.countBadFrame.setReceiver .hunting := by
  have hsync : len ≠ Config.sync := by
    rintro rfl
    revert hbad
    decide
  have hrange : ¬ (4 ≤ len.toNat ∧ len.toNat ≤ 244) := by omega
  have hreceive : s.lengthOutOfRange len = s.characterSeen.countBadFrame.receive 1 [len] := by
    simp only [State.lengthOutOfRange, h]
    exact if_pos ⟨hheld, hrange⟩
  rw [hreceive]
  exact if_pos hsync

/-- A partial frame is discarded and counted (R126, R127). -/
theorem State.dropPartial_partial
    (h : s.link.receiver = .length ∨ (∃ len cs, s.link.receiver = .body len cs) ∨ s.link.receiver = .lapsed) :
    s.dropPartial = s.countBadFrame.setReceiver .hunting := by
  obtain h | ⟨len, cs, h⟩ | h := h <;> simp only [State.dropPartial, h]

theorem State.dropPartial_hunting (h : s.link.receiver = .hunting) : s.dropPartial = s := by
  simp only [State.dropPartial, h]

end Collecting

/-- Settles O40: each command of the receiver, by the receiver's state. -/
theorem receiverCollectsOrDiscards : Obligations.ReceiverCollectsOrDiscards := by
  refine ⟨fun s hl hheld => ⟨fun h => next_live hl (State.syncByteFound_hunting hheld h),
      fun h => next_live hl (State.syncByteFound_lapsed hheld h),
      fun len h hmin hmax => next_live hl (State.lengthAccepted_inRange hheld h hmin hmax),
      fun len c cs h hmore => next_live hl (State.bodyCharacter_more hheld h hmore)⟩,
    fun s hl => ⟨fun len hheld h hbad => next_live hl (State.lengthOutOfRange_bad hheld h hbad),
      fun h => ⟨fun hgap => next_live hl ((if_pos hgap).trans (State.dropPartial_partial h)), fun hheld => next_live hl ?_⟩,
      fun h => ⟨next_live hl ?_, next_live hl ?_⟩⟩⟩
  · rw [State.framingError, hheld, if_neg Bool.false_ne_true, State.dropPartial_partial h]
    rfl
  · rw [State.interCharacterGap, State.dropPartial_hunting h, ite_self]
  · rw [State.framingError, State.dropPartial_hunting h, ite_self]

/-! ## What the receiver makes of the characters (R124, R125) -/

theorem LinkController.screen_receiver (l : LinkController) (r : Receiver) (code tag : Byte) (payload : List Byte) :
    ({ l with receiver := r }).screen code tag payload = { l.screen code tag payload with receiver := r } := by
  unfold LinkController.screen
  dsimp only
  generalize (if tag = 0 then none else l.replyCache.filter fun c => c.tag == tag && c.code == code) = cached
  cases cached
  all_goals
    dsimp only
    repeat' split
    all_goals rfl

/-- A good frame is judged the same whatever the receiver's state (R125). -/
theorem State.acceptFrame_setReceiver (s : State) (r : Receiver) (body : List Byte) :
    (s.setReceiver r).acceptFrame body = (s.acceptFrame body).setReceiver r := by
  unfold State.acceptFrame
  split
  · split
    · exact congrArg (fun l => ({ s with session := s.session.arrival s.instant _, link := l } : State))
        (s.link.screen_receiver r _ _ _)
    · rfl
  · rfl

theorem State.receive_nil (s : State) (fuel : Nat) : s.receive fuel [] = s.setReceiver .hunting := by
  cases fuel <;> rfl

theorem State.receive_pass {s : State} {n : Nat} {c : Byte} {rest : List Byte} (hc : c ≠ 0xD3) :
    s.receive (n + 1) (c :: rest) = s.receive n rest := if_pos hc

theorem State.receive_sync (s : State) (n : Nat) (len : Byte) (more : List Byte) :
    s.receive (n + 1) (0xD3 :: len :: more) =
      if len.toNat < 4 ∨ 244 < len.toNat then s.countBadFrame.receive n (len :: more)
      else if more.length < len.toNat + 2 then s.setReceiver (.body len more)
      else if (more.drop len.toNat).take 2 = bytes16 (crc16 (len :: more.take len.toNat)) then
        (s.acceptFrame (more.take len.toNat)).receive n (more.drop (len.toNat + 2))
      else s.countBadFrame.receive n (len :: more) := rfl

/-- The receiver's state before the examination plays no part in it (R125). -/
theorem State.receive_setReceiver (s : State) (r : Receiver) (fuel : Nat) (cs : List Byte) :
    (s.setReceiver r).receive fuel cs = s.receive fuel cs := by
  induction fuel generalizing s cs with
  | zero => rfl
  | succ n ih =>
    have hcount (cs : List Byte) : (s.setReceiver r).countBadFrame.receive n cs = s.countBadFrame.receive n cs :=
      ih s.countBadFrame cs
    obtain _ | ⟨c, rest⟩ := cs
    · rfl
    by_cases hc : c = 0xD3
    · subst hc
      obtain _ | ⟨len, more⟩ := rest
      · rfl
      · rw [State.receive_sync, State.receive_sync, hcount, State.acceptFrame_setReceiver, ih]
        rfl
    · rw [State.receive_pass hc, State.receive_pass hc, ih]

section Receive

variable {s : State} {n : Nat} {len hi lo : Byte} {rest body : List Byte}

theorem State.receive_atSync : s.receive (n + 1) [0xD3] = s.setReceiver .length := rfl

theorem State.receive_badLength (h : len.toNat < 4 ∨ 244 < len.toNat) :
    s.receive (n + 1) (0xD3 :: len :: rest) = s.countBadFrame.receive n (len :: rest) := if_pos h

theorem State.receive_inBody (hmin : 4 ≤ len.toNat) (hmax : len.toNat ≤ 244) (hshort : rest.length < len.toNat + 2) :
    s.receive (n + 1) (0xD3 :: len :: rest) = s.setReceiver (.body len rest) :=
  (if_neg (by omega : ¬ (len.toNat < 4 ∨ 244 < len.toNat))).trans (if_pos hshort)

/-- A whole frame, by its CRC (R125). -/
theorem State.receive_whole (hmin : 4 ≤ len.toNat) (hmax : len.toNat ≤ 244) (hlength : body.length = len.toNat) :
    s.receive (n + 1) (0xD3 :: len :: body ++ hi :: lo :: rest) =
      if hi ++ lo = crc16 (len :: body) then (s.acceptFrame body).receive n rest
      else s.countBadFrame.receive n (len :: body ++ hi :: lo :: rest) := by
  have hlong : ¬ (body ++ hi :: lo :: rest).length < len.toNat + 2 := by
    rw [List.length_append, List.length_cons, List.length_cons]
    omega
  have htake : (body ++ hi :: lo :: rest).take len.toNat = body := List.take_left' hlength
  have hcrc : ((body ++ hi :: lo :: rest).drop len.toNat).take 2 = [hi, lo] := by
    rw [List.drop_left' hlength]
    rfl
  have hbehind : (body ++ hi :: lo :: rest).drop (len.toNat + 2) = rest := by
    rw [← List.drop_drop, List.drop_left' hlength]
    rfl
  have hsame : ([hi, lo] = bytes16 (crc16 (len :: body))) ↔ hi ++ lo = crc16 (len :: body) := by
    refine ⟨fun h => ?_, fun h => ?_⟩
    · rw [← bytes16_word16] at h
      have hbytes := congrArg (fun l : List Byte => word16 (l.getD 0 0) (l.getD 1 0)) h
      exact (word16_bytes16 (word16 hi lo)).symm.trans (hbytes.trans (word16_bytes16 _))
    · rw [← h]
      exact (bytes16_word16 hi lo).symm
  rw [List.cons_append, List.cons_append, State.receive_sync,
    if_neg (by omega : ¬ (len.toNat < 4 ∨ 244 < len.toNat)), if_neg hlong, htake, hcrc, hbehind]
  by_cases hgood : hi ++ lo = crc16 (len :: body)
  · rw [if_pos hgood, if_pos (hsame.mpr hgood)]
  · rw [if_neg hgood, if_neg fun h => hgood (hsame.mp h)]

end Receive

end Sys2Proof.Machine
end

section
/-! PROOFS. Whole frames (R124, R125, R127, R131, R132): what becomes of a good request and of any other frame, the ack and
the screening of an arrival, and the re-examination after a bad CRC. -/

namespace Sys2Proof.Machine

/-! ## A frame with a good CRC (R125) -/

/-- The last character of a good frame hands its body on, and the receiver hunts behind it (R124, R125). -/
theorem exec_frameComplete_good {s : State} {c : Byte} {body : List Byte} (h : s.Completes c body) (hmin : 4 ≤ body.length) :
    exec (.frameComplete c) s = .next ((s.setLink (s.link.received s.instant)).acceptFrame body) := by
  obtain ⟨hl, hheld, hmax, cs, hr, hcs⟩ := h
  have hlen : (byteOf body.length).toNat = body.length := by
    rw [byteOf, BitVec.toNat_ofNat]
    exact Nat.mod_eq_of_lt (Nat.lt_of_le_of_lt hmax (by decide))
  have hlength : cs.length + 1 = (byteOf body.length).toNat + 2 := by
    have := congrArg List.length hcs
    rw [List.length_append, List.length_append] at this
    exact this.trans (by rw [hlen] <;> rfl)
  have hreceive : s.frameComplete c =
      s.characterSeen.receive (cs.length + 4) (0xD3 :: byteOf body.length :: cs ++ [c]) := by
    simp only [State.frameComplete, hr]
    exact if_pos ⟨hheld, hlength⟩
  have hlist : (0xD3 :: byteOf body.length :: cs ++ [c] : List Byte) =
      0xD3 :: byteOf body.length :: body ++ bytes16 (crc16 (byteOf body.length :: body)) :=
    congrArg (fun l => 0xD3 :: byteOf body.length :: l) hcs
  have hcrc : (crc16 (byteOf body.length :: body)).extractLsb' 8 8 ++ (crc16 (byteOf body.length :: body)).extractLsb' 0 8 =
      crc16 (byteOf body.length :: body) := word16_bytes16 _
  refine next_live hl ?_
  rw [hreceive, hlist, bytes16, State.receive_whole (hlen.symm ▸ hmin) (hlen.symm ▸ hmax) hlen.symm,
    if_pos hcrc, State.receive_nil, ← State.acceptFrame_setReceiver]
  rfl

theorem State.acceptFrame_request (s : State) {code : Byte} (hcode : code.toNat < 0x40) (tag hi lo : Byte)
    (payload : List Byte) : s.acceptFrame (code :: tag :: hi :: lo :: payload) = { s with
      session := s.session.arrival s.instant (word16 hi lo)
      link := s.link.screen code tag payload } := if_pos hcode

theorem State.acceptFrame_noRequest (s : State) {type : Byte} (htype : 0x40 ≤ type.toNat) (rest : List Byte) :
    s.acceptFrame (type :: rest) = s.countBadFrame := by
  unfold State.acceptFrame
  split
  · next code tag hi lo payload heq =>
    cases heq
    exact if_neg (Nat.not_lt.mpr htype)
  · rfl

/-- A good request frame goes to the Session and to the screening (R125, R131). -/
theorem exec_frameComplete_request {s : State} {c code tag hi lo : Byte} {payload : List Byte}
    (h : s.Completes c (code :: tag :: hi :: lo :: payload)) (hcode : code.toNat < 0x40) :
    exec (.frameComplete c) s = .next { s with
      session := s.session.arrival s.instant (word16 hi lo)
      link := (s.link.received s.instant).screen code tag payload } := by
  rw [exec_frameComplete_good h (Nat.le_add_left 4 payload.length),
    State.acceptFrame_request (s.setLink (s.link.received s.instant)) hcode]
  rfl

/-! ## The arrival at the Session (R131, R144, R151) -/

section Arrival

variable {ss : Session} {now : Instant} {ack : Word}

theorem Session.arrival_closed (h : ss.state = .closed) : ss.arrival now ack = ss := by
  simp only [Session.arrival, h]

theorem Session.arrival_notClosed (h : ss.state ≠ .closed) : ss.arrival now ack =
    ({ ss with
      state := .opened, keepaliveTimer := keepaliveFrom now ss.keepalive
      retryCount := if ss.state = .silent then 0 else ss.retryCount } : Session).applyAck now ack := by
  obtain ⟨state, _⟩ := ss
  cases state with
  | closed => exact absurd rfl h
  | opened => rfl
  | silent => rfl

/-- An ack that names no report in flight is ignored (R151). -/
theorem Session.applyAck_ignored (h : ∀ r ∈ ss.reports, r.sequence = ack → r.delivery = .unsent) :
    ss.applyAck now ack = ss := by
  refine if_neg fun hacks => ?_
  obtain ⟨r, hr, hnames⟩ := List.any_eq_true.mp hacks
  rw [Bool.and_eq_true, beq_iff_eq, beq_iff_eq] at hnames
  exact absurd ((h r hr hnames.1).symm.trans hnames.2) (by decide)

/-- An ack that names a report in flight removes it and all older ones (R151). -/
theorem Session.applyAck_names {older newer : List Report} {r : Report} (hsplit : ss.reports = older ++ r :: newer)
    (hr : r.sequence = ack) (hflying : r.delivery = .inFlight) (holder : ∀ r' ∈ older, r'.sequence ≠ ack) :
    ss.applyAck now ack = { ss with
      reports := newer
      retryCount := 0
      retryTimer := if ∃ r' ∈ newer, r'.delivery = .inFlight then some (now + 2500) else none } := by
  have hacks : ss.acks ack = true := List.any_eq_true.mpr
    ⟨r, by simp [hsplit], by rw [hr, hflying, beq_self_eq_true, beq_self_eq_true, Bool.and_true]⟩
  have hafter : reportsAfter ack ss.reports = newer := by
    have hskip : ∀ r' ∈ older, decide (r'.sequence ≠ ack) = true := fun r' h => decide_eq_true (holder r' h)
    rw [reportsAfter, hsplit, List.dropWhile_append_of_pos hskip, List.dropWhile_cons_of_neg (by simp [hr]), List.tail_cons]
  rw [Session.applyAck, if_pos hacks, hafter]
  dsimp only
  congr 1
  by_cases hleft : ∃ r' ∈ newer, r'.delivery = .inFlight
  · rw [if_pos hleft]
    refine if_neg fun hzero => ?_
    obtain ⟨r', hmem, hfly⟩ := hleft
    exact absurd ((Session.inFlight_eq_zero.mp hzero r' hmem).symm.trans hfly) (by decide)
  · rw [if_neg hleft]
    exact if_pos (Session.inFlight_eq_zero.mpr fun r' hmem => Delivery.ne_inFlight.mp fun hfly => hleft ⟨r', hmem, hfly⟩)

end Arrival

/-- Settles O42: a good request frame, by the session's state and by what its ack names. -/
theorem requestFrameArrives : Obligations.RequestFrameArrives := by
  rintro s c code tag hi lo payload ss keepalive retry hcomplete hcode rfl rfl hcase
  have harrival : s.session.arrival s.instant (word16 hi lo) = ss := by
    obtain ⟨hclosed, rfl⟩ | ⟨hopen, hnone, rfl⟩ | ⟨hopen, older, r, newer, hsplit, hr, hflying, holder, rfl⟩ := hcase
    · exact Session.arrival_closed hclosed
    · rw [Session.arrival_notClosed hopen]
      exact Session.applyAck_ignored hnone
    · rw [Session.arrival_notClosed hopen]
      exact Session.applyAck_names hsplit hr hflying holder
  rw [exec_frameComplete_request hcomplete hcode, harrival]

/-! ## The screening (R132) -/

section Screening

variable {l : LinkController} {code tag : Byte} {payload : List Byte}

theorem LinkController.screen_duplicate (htag : tag ≠ 0) (h : ∃ e ∈ l.buffer, e.tag = tag ∧ e.code = code) :
    l.screen code tag payload = l := by
  obtain ⟨e, he, htagged, hcoded⟩ := h
  exact if_pos ⟨htag, List.any_eq_true.mpr ⟨e, he, by rw [htagged, hcoded, beq_self_eq_true, beq_self_eq_true, Bool.and_true]⟩⟩

/-- An arrival that is no duplicate of a buffered request, by what the reply cache has of it (R132). -/
theorem LinkController.screen_new (h : tag = 0 ∨ ∀ e ∈ l.buffer, ¬(e.tag = tag ∧ e.code = code)) :
    l.screen code tag payload =
      match (if tag = 0 then none else l.replyCache.filter fun c => c.tag == tag && c.code == code) with
      | some c => if l.shortReply.isNone then { l with shortReply := some c.reply } else l
      | none =>
        if l.buffer.length < 2 then { l with buffer := l.buffer ++ [⟨code, tag, payload, .waiting⟩] }
        else if l.shortReply.isNone then { l with shortReply := some (replyFrame code tag (.refuse .busy)) }
        else l := by
  have hnew : ¬ (tag ≠ 0 ∧ l.buffer.any (fun e => e.tag == tag && e.code == code) = true) := by
    rintro ⟨htag, hany⟩
    obtain ⟨e, he, hsame⟩ := List.any_eq_true.mp hany
    rw [Bool.and_eq_true, beq_iff_eq, beq_iff_eq] at hsame
    exact h.elim htag fun hnone => hnone e he hsame
  exact (if_neg hnew).trans rfl

/-- The short reply slot takes a reply if it is empty; else the reply is dropped (R132). -/
theorem LinkController.shortReply_getD (l : LinkController) (f : List Byte) :
    (if l.shortReply.isNone then { l with shortReply := some f } else l) =
      { l with shortReply := some (l.shortReply.getD f) } := by
  cases h : l.shortReply with
  | none => rfl
  | some g =>
    show l = { l with shortReply := some g }
    rw [← h]

theorem LinkController.screen_cached (h : tag = 0 ∨ ∀ e ∈ l.buffer, ¬(e.tag = tag ∧ e.code = code)) {cached : CachedReply}
    (htag : tag ≠ 0) (hcache : l.replyCache = some cached) (htagged : cached.tag = tag) (hcoded : cached.code = code) :
    l.screen code tag payload = { l with shortReply := some (l.shortReply.getD cached.reply) } := by
  have hfilter : l.replyCache.filter (fun c => c.tag == tag && c.code == code) = some cached := by
    rw [hcache, Option.filter_some, htagged, hcoded, beq_self_eq_true, beq_self_eq_true]
    rfl
  rw [LinkController.screen_new h, if_neg htag, hfilter]
  exact l.shortReply_getD _

/-- Nothing in the reply cache is the arrival's (R132). -/
theorem LinkController.screen_uncached (h : tag = 0 ∨ ∀ e ∈ l.buffer, ¬(e.tag = tag ∧ e.code = code))
    (hcache : tag = 0 ∨ ∀ cached, l.replyCache = some cached → ¬(cached.tag = tag ∧ cached.code = code)) :
    l.screen code tag payload =
      if l.buffer.length < 2 then { l with buffer := l.buffer ++ [⟨code, tag, payload, .waiting⟩] }
      else { l with shortReply := some (l.shortReply.getD (replyFrame code tag (.refuse .busy))) } := by
  have hnone : (if tag = 0 then none else l.replyCache.filter fun c => c.tag == tag && c.code == code) = none := by
    split
    · rfl
    · next htag =>
      refine Option.filter_eq_none_iff.mpr fun cached hsome hsame => ?_
      rw [Bool.and_eq_true, beq_iff_eq, beq_iff_eq] at hsame
      exact hcache.elim htag fun hother => hother cached hsome hsame
  rw [LinkController.screen_new h, hnone, ← LinkController.shortReply_getD]

end Screening

/-- Settles O43: the screening of a good request frame, case by case in its order. -/
theorem arrivalsAreScreened : Obligations.ArrivalsAreScreened := by
  rintro s t c code tag hi lo payload hcomplete hcode rfl
  rw [exec_frameComplete_request hcomplete hcode]
  refine ⟨fun ⟨htag, hdup⟩ => ?_, fun hnew => ⟨fun cached htag hcache htagged hcoded => ?_, fun huncached => ⟨fun hfull => ?_,
    fun hroom => ?_⟩⟩⟩
  · rw [LinkController.screen_duplicate (l := s.link.received s.instant) htag hdup]
  · rw [LinkController.screen_cached (l := s.link.received s.instant) hnew htag hcache htagged hcoded]
    rfl
  · rw [LinkController.screen_uncached (l := s.link.received s.instant) hnew huncached,
      if_neg (c := (s.link.received s.instant).buffer.length < 2) (Nat.not_lt.mpr hfull)]
    rfl
  · rw [LinkController.screen_uncached (l := s.link.received s.instant) hnew huncached,
      if_pos (c := (s.link.received s.instant).buffer.length < 2) hroom]
    rfl

/-! ## A whole frame, character by character (R124) -/

theorem State.characterSeen_self {s : State} (h : s.link.lastCharacter = s.instant) : s.characterSeen = s := by
  rw [State.characterSeen, ← h]
  rfl

/-- The characters of a frame before its last, collected in order (R124). -/
theorem runAll_bodyCharacters {len : Byte} (cs : List Byte) {before : List Byte} {s : State} (hl : s.pins.resetLow = false)
    (hheld : s.link.breakHeld = false) (hlast : s.link.lastCharacter = s.instant)
    (hr : s.link.receiver = .body len before) (hlen : before.length + cs.length < len.toNat + 2) :
    runAll (cs.map .bodyCharacter) s = some (s.setReceiver (.body len (before ++ cs))) := by
  induction cs generalizing before s with
  | nil =>
    rw [List.append_nil, ← hr]
    rfl
  | cons c cs ih =>
    rw [List.length_cons] at hlen
    rw [List.map_cons, runAll_cons_live (f := (·.bodyCharacter c)) (fun _ => rfl) _ hl,
      State.bodyCharacter_more hheld hr (by omega), State.characterSeen_self hlast,
      ih (s := s.setReceiver (.body len (before ++ [c]))) hl hheld hlast rfl (by rw [List.length_append]; simp; omega),
      List.append_assoc]
    rfl

/-- Settles O44: the sync byte, the length byte, the characters of the body in order, and the last character of the good
frame. -/
theorem wholeFramesAreReceived : Obligations.WholeFramesAreReceived := by
  intro s code tag hi lo payload hl hheld hr hmax hcode
  have hlen : (byteOf (code :: tag :: hi :: lo :: payload).length).toNat = payload.length + 4 := by
    rw [byteOf, BitVec.toNat_ofNat]
    exact Nat.mod_eq_of_lt (by simp only [List.length_cons]; omega)
  generalize hbody : code :: tag :: hi :: lo :: payload = body at hlen ⊢
  have hlength : body.length = payload.length + 4 := by rw [← hbody] <;> rfl
  have hcollected : runAll ((body ++ [(crc16 (byteOf body.length :: body)).extractLsb' 8 8]).map .bodyCharacter)
      (s.characterSeen.setReceiver (.body (byteOf body.length) [])) = some (s.characterSeen.setReceiver
        (.body (byteOf body.length) (body ++ [(crc16 (byteOf body.length :: body)).extractLsb' 8 8]))) :=
    runAll_bodyCharacters _ (s := s.characterSeen.setReceiver (.body (byteOf body.length) [])) hl hheld rfl rfl
      (by rw [hlen, List.length_append, hlength, List.length_nil, List.length_singleton]; omega)
  have hcomplete : (s.characterSeen.setReceiver
      (.body (byteOf body.length) (body ++ [(crc16 (byteOf body.length :: body)).extractLsb' 8 8]))).Completes
        ((crc16 (byteOf body.length :: body)).extractLsb' 0 8) body :=
    ⟨hl, hheld, by omega, _, rfl, by rw [List.append_assoc] <;> rfl⟩
  rw [receiving, List.cons_append, List.cons_append, runAll_cons_live (f := State.syncByteFound) (fun _ => rfl) _ hl,
    State.syncByteFound_hunting hheld hr,
    runAll_cons_live (s := s.characterSeen.setReceiver .length) (f := (·.lengthAccepted (byteOf body.length)))
      (fun _ => rfl) _ hl,
    State.lengthAccepted_inRange (s := s.characterSeen.setReceiver .length) hheld rfl (by omega) (by omega), runAll_append]
  refine (congrArg (fun o => Option.bind o _) hcollected).trans ?_
  subst hbody
  have hlast := exec_frameComplete_request hcomplete hcode
  simp only [Option.bind_some, runAll, hlast]
  rfl

end Sys2Proof.Machine
end

section
/-! PROOFS. The re-examination of the characters after a bad CRC (R124, R125, R127): the receiver over a run of characters
does what `Examined` says, which has one outcome. -/

namespace Sys2Proof.Machine

/-! ## The receiver over a run of characters -/

/-- Whatever the characters are, the receiver with enough fuel ends in the state that `Examined` says. -/
theorem Examined.receive_eq {s t : State} {cs : List Byte} (h : Examined s cs t) :
    ∀ fuel, cs.length ≤ fuel → s.receive fuel cs = t := by
  induction h with
  | used => exact fun fuel _ => State.receive_nil _ fuel
  | passed hc _ ih =>
    rintro (_ | n) hfuel
    · cases hfuel
    · rw [State.receive_pass hc]
      exact ih n (Nat.le_of_succ_le_succ hfuel)
  | atSync =>
    rintro (_ | n) hfuel
    · cases hfuel
    · rfl
  | badLength hbad _ ih =>
    rintro (_ | n) hfuel
    · cases hfuel
    · rw [State.receive_badLength hbad]
      exact ih n (Nat.le_of_succ_le_succ hfuel)
  | inBody hmin hmax hshort =>
    rintro (_ | n) hfuel
    · cases hfuel
    · exact State.receive_inBody hmin hmax hshort
  | badCrc hmin hmax hlength hcrc _ ih =>
    rintro (_ | n) hfuel
    · cases hfuel
    · rw [State.receive_whole hmin hmax hlength, if_neg hcrc]
      exact ih n (Nat.le_of_succ_le_succ hfuel)
  | @request s t len hi lo code tag ackHi ackLo payload rest hlen hmax hcrc hcode _ ih =>
    rintro (_ | n) hfuel
    · cases hfuel
    · rw [State.receive_whole (body := code :: tag :: ackHi :: ackLo :: payload) (by omega) hmax hlen.symm, if_pos hcrc,
        State.acceptFrame_request s hcode]
      refine ih n ?_
      simp only [List.length_append, List.length_cons] at hfuel
      omega
  | @noRequest s t len hi lo type body rest hmin hmax hlength hcrc htype _ ih =>
    rintro (_ | n) hfuel
    · cases hfuel
    · rw [State.receive_whole (body := type :: body) hmin hmax hlength, if_pos hcrc, State.acceptFrame_noRequest s htype]
      refine ih n ?_
      simp only [List.length_append, List.length_cons] at hfuel
      omega

/-- A good frame behind the sync byte, by its type (R125). -/
theorem examined_goodFrame {s : State} {len hi lo : Byte} {body rest : List Byte} (hmin : 4 ≤ len.toNat)
    (hmax : len.toNat ≤ 244) (hlength : body.length = len.toNat) (hcrc : hi ++ lo = crc16 (len :: body)) {n : Nat}
    (hrest : ∀ u : State, Examined u rest (u.receive n rest)) :
    Examined s (0xD3 :: len :: body ++ hi :: lo :: rest) ((s.acceptFrame body).receive n rest) := by
  match body, hlength, hcrc with
  | code :: tag :: ackHi :: ackLo :: payload, hlength, hcrc =>
    by_cases hcode : code.toNat < 0x40
    · rw [State.acceptFrame_request s hcode]
      exact .request (hlength.symm.trans rfl) hmax hcrc hcode (hrest _)
    · have htype := Nat.not_lt.mp hcode
      rw [State.acceptFrame_noRequest s htype]
      exact .noRequest (body := tag :: ackHi :: ackLo :: payload) hmin hmax hlength hcrc htype (hrest _)
  | [], hlength, _ | [_], hlength, _ | [_, _], hlength, _ | [_, _, _], hlength, _ =>
    simp only [List.length_cons, List.length_nil] at hlength
    omega

/-- The receiver with enough fuel examines the characters as `Examined` says, from any state. -/
theorem examined_receive (n : Nat) {cs : List Byte} (hfuel : cs.length ≤ n) (s : State) :
    Examined s cs (s.receive n cs) := by
  induction n generalizing s cs with
  | zero =>
    obtain rfl := List.length_eq_zero_iff.mp (Nat.le_zero.mp hfuel)
    exact .used
  | succ n ih =>
    obtain _ | ⟨c, rest⟩ := cs
    · exact .used
    have hrest : rest.length ≤ n := Nat.le_of_succ_le_succ hfuel
    by_cases hc : c = 0xD3
    · subst hc
      obtain _ | ⟨len, more⟩ := rest
      · exact .atSync
      by_cases hbad : len.toNat < 4 ∨ 244 < len.toNat
      · rw [State.receive_badLength hbad]
        exact .badLength hbad (ih hrest _)
      obtain ⟨hmin, hmax⟩ : 4 ≤ len.toNat ∧ len.toNat ≤ 244 := by omega
      by_cases hshort : more.length < len.toNat + 2
      · rw [State.receive_inBody hmin hmax hshort]
        exact .inBody hmin hmax hshort
      obtain ⟨body, hi, lo, behind, hmore, hlength⟩ : ∃ body hi lo behind,
          more = body ++ hi :: lo :: behind ∧ body.length = len.toNat := by
        have hdrop : 2 ≤ (more.drop len.toNat).length := by rw [List.length_drop]; omega
        match hbehind : more.drop len.toNat, hdrop with
        | hi :: lo :: behind, _ =>
          exact ⟨more.take len.toNat, hi, lo, behind, by rw [← hbehind, List.take_append_drop],
            List.length_take_of_le (by omega)⟩
      subst hmore
      rw [← List.cons_append, ← List.cons_append, State.receive_whole hmin hmax hlength]
      split
      · next hcrc =>
        refine examined_goodFrame hmin hmax hlength hcrc fun u => ih ?_ u
        simp only [List.length_append, List.length_cons] at hrest
        omega
      · next hcrc => exact .badCrc hmin hmax hlength hcrc (ih hrest _)
    · rw [State.receive_pass hc]
      exact .passed hc (ih hrest s)

/-- Characters that are no sync byte are passed over (R124). -/
theorem Examined.passed_all {s t : State} {before rest : List Byte} (hbefore : ∀ x ∈ before, x ≠ 0xD3)
    (h : Examined s rest t) : Examined s (before ++ rest) t := by
  induction before with
  | nil => exact h
  | cons x xs ih =>
    exact .passed (hbefore x List.mem_cons_self) (ih fun y hy => hbefore y (List.mem_cons_of_mem _ hy))

/-! ## A whole frame with a bad CRC (R125, R127) -/

/-- The frame is counted, and the characters after its sync byte are examined again (R125, R127). -/
theorem exec_frameComplete_bad {s u t : State} {len c : Byte} {cs : List Byte} (hl : s.pins.resetLow = false)
    (hheld : s.link.breakHeld = false) (hr : s.link.receiver = .body len cs) (hmin : 4 ≤ len.toNat)
    (hmax : len.toNat ≤ 244) (hlength : cs.length + 1 = len.toNat + 2)
    (hcrc : (cs ++ [c]).drop len.toNat ≠ bytes16 (crc16 (len :: cs.take len.toNat)))
    (hu : u = { s with link := { s.link.received s.instant with badFrames := s.link.badFrames.saturatingSucc } })
    (ht : Examined u (len :: cs ++ [c]) t) : exec (.frameComplete c) s = .next t := by
  have hreceive : s.frameComplete c = s.characterSeen.receive (cs.length + 4) (0xD3 :: len :: (cs ++ [c])) := by
    simp only [State.frameComplete, hr]
    exact if_pos ⟨hheld, hlength⟩
  have htake : (cs ++ [c]).take len.toNat = cs.take len.toNat := List.take_append_of_le_length (by omega)
  have hwhole : ((cs ++ [c]).drop len.toNat).take 2 = (cs ++ [c]).drop len.toNat :=
    List.take_of_length_le (by rw [List.length_drop, List.length_append, List.length_singleton]; omega)
  have hlong : ¬ (cs ++ [c]).length < len.toNat + 2 := by
    rw [List.length_append, List.length_singleton]
    omega
  have hcounted : s.frameComplete c = s.characterSeen.countBadFrame.receive (cs.length + 3) (len :: (cs ++ [c])) := by
    rw [hreceive, State.receive_sync, if_neg (by omega : ¬ (len.toNat < 4 ∨ 244 < len.toNat)), if_neg hlong, htake, hwhole,
      if_neg hcrc]
  have hhunting : u = s.characterSeen.countBadFrame.setReceiver .hunting := hu
  refine next_live hl (hcounted.trans ?_)
  rw [← State.receive_setReceiver _ .hunting, ← hhunting]
  exact ht.receive_eq _ (by simp only [List.length_cons, List.length_append, List.length_nil]; omega)

/-- Settles O41: a good frame that is no request is counted; after a bad CRC the examination is that of `Examined`. -/
theorem badFramesAreCounted : Obligations.BadFramesAreCounted := by
  refine ⟨fun s c type rest hcomplete hrest htype => ?_, fun s len c cs before hl hheld hr hmin hmax hlength hcrc hbefore => ?_,
    fun s u len c cs hl hheld hr hmin hmax hlength hcrc hu => ⟨⟨_, examined_receive _ (Nat.le_refl _) u⟩,
      fun t ht => exec_frameComplete_bad hl hheld hr hmin hmax hlength hcrc hu ht⟩⟩
  · rw [exec_frameComplete_good hcomplete (Nat.succ_le_succ hrest),
      State.acceptFrame_noRequest (s.setLink (s.link.received s.instant)) htype]
    rfl
  · have hexec {t : State} (ht : Examined _ (len :: cs ++ [c]) t) : exec (.frameComplete c) s = .next t :=
      exec_frameComplete_bad hl hheld hr hmin hmax hlength hcrc rfl ht
    refine ⟨fun hlist => hexec ?_, fun hlist => hexec ?_, fun len' more hlist hmin' hmax' hshort => hexec ?_⟩
    · have hused := Examined.passed_all hbefore (.used (s := { s with
        link := { s.link.received s.instant with badFrames := s.link.badFrames.saturatingSucc } }))
      rw [List.append_nil] at hused
      exact hlist ▸ hused
    · exact hlist ▸ Examined.passed_all hbefore .atSync
    · exact hlist ▸ Examined.passed_all hbefore (.inBody hmin' hmax' hshort)

end Sys2Proof.Machine
end
